-- ==== Sys2Proof/Word.lean ====
section
/-!
DEFINITION. The word types of the block: the host bus's data and address (00 R9) and the internal frame and sample
registers (00 R9, 10 R28).
-/

namespace Sys2Proof

/-- The 32-bit word of the host bus, of TXDATA and RXDATA and of a command (00 R9). -/
abbrev Word := BitVec 32

/-- The 5-bit byte address of the host bus (00 R9, 10 R18). -/
abbrev BusAddr := BitVec 5

/-- A frame or sample register: WMAX + 2 bits, at most 34 (00 R9, 10 R28). It is held in 34 bits; an instance with a
smaller WMAX uses the low WMAX + 2 of them (log entry 7). Bit i belongs to frame bit i. -/
abbrev Image := BitVec 34

end Sys2Proof
end

