-- ==== Sys2Proof/Syntax.lean ====
section
/-!
DEFINITION. The commands of the block: one constructor per row of spec/opcode_table.json (30 R50).
-/

namespace Sys2Proof

/-- A command (30 R50). SEND takes its value from TXDATA, RECEIVE and READ give their result in RXDATA (30 R51), so the
only operands are the payload width W (WIDTH, 6 bits, unsigned) and the one-bit ARG. -/
inductive Instr where
  /-- NOP (44 R96). -/
  | nop
  /-- SEND W: transmit the low W bits of TXDATA as one frame (42 R75). -/
  | send (w : BitVec 6)
  /-- RECEIVE W: receive one frame of width W into RXDATA (43 R81). -/
  | receive (w : BitVec 6)
  /-- SET_OUT L: output mode, drive level L (40 R62). -/
  | setOut (l : Bool)
  /-- SET_IN P: input mode, pulled toward High if P = 1 (40 R63). -/
  | setIn (p : Bool)
  /-- WRITE L: drive level L, output mode only (40 R64). -/
  | write (l : Bool)
  /-- READ: sample the line into RXDATA, input mode only (40 R65). -/
  | read
  /-- ABORT: cancel a running SEND or RECEIVE (44 R97). -/
  | abort
deriving DecidableEq, Repr

end Sys2Proof
end

