-- ==== Sys2Proof/Decode.lean ====
section
/-!
DEFINITION. The command word: its fields (30 R48), the total decoder (30 R52) that rejects by name, and the encoder
(30 R50).
-/

namespace Sys2Proof

/-- OP, bits 3:0 (30 R48). -/
def opField (c : Word) : BitVec 4 := c.extractLsb' 0 4

/-- WIDTH, bits 9:4: the unsigned payload width (30 R48, R51). -/
def widthField (c : Word) : BitVec 6 := c.extractLsb' 4 6

/-- ARG, bit 10 (30 R48, R51). -/
def argField (c : Word) : Bool := c.getLsbD 10

/-- RES, bits 31:11, which must be 0 (30 R48). -/
def resField (c : Word) : BitVec 21 := c.extractLsb' 11 21

/-- Why a word is no command (30 R52, R53). -/
inductive DecodeError where
  /-- Bad(1): OP is 0x8 to 0xF. -/
  | reservedOpcode
  /-- Bad(2): a nonzero bit in RES or in a field the opcode does not use. -/
  | fieldNotZero
deriving DecidableEq, Repr

/-- The CMD_ERR cause of a decode error (30 R53, 44 R95). -/
def decodeCause : DecodeError → BitVec 3
  | .reservedOpcode => 1
  | .fieldNotZero => 2

/-- What a word decodes to: one command, or a named reason why it is none (30 R52). -/
inductive Decoded where
  /-- `Cmd(op, W, ARG)`. -/
  | cmd (i : Instr)
  /-- `Bad(k)`. -/
  | bad (e : DecodeError)
deriving DecidableEq, Repr

/-- The command i, unless a field it does not use is set (30 R52). -/
def cmdUnless (unusedSet : Bool) (i : Instr) : Decoded :=
  if unusedSet then .bad .fieldNotZero else .cmd i

/-- `Decode(c)` of 30 R52: the reserved opcodes first, then RES, then the fields each opcode does not use. -/
def decode (c : Word) : Decoded :=
  if 8 ≤ (opField c).toNat then .bad .reservedOpcode
  else if resField c ≠ 0 then .bad .fieldNotZero
  else
    match (opField c).toNat with
    | 0 => cmdUnless (widthField c != 0 || argField c) .nop
    | 1 => cmdUnless (argField c) (.send (widthField c))
    | 2 => cmdUnless (argField c) (.receive (widthField c))
    | 3 => cmdUnless (widthField c != 0) (.setOut (argField c))
    | 4 => cmdUnless (widthField c != 0) (.setIn (argField c))
    | 5 => cmdUnless (widthField c != 0) (.write (argField c))
    | 6 => cmdUnless (widthField c != 0 || argField c) .read
    | 7 => cmdUnless (widthField c != 0 || argField c) .abort
    | _ => .bad .reservedOpcode

/-- The opcode of a command (30 R50). -/
def opcode : Instr → BitVec 4
  | .nop => 0x0
  | .send _ => 0x1
  | .receive _ => 0x2
  | .setOut _ => 0x3
  | .setIn _ => 0x4
  | .write _ => 0x5
  | .read => 0x6
  | .abort => 0x7

/-- The word with these fields and RES = 0 (30 R48). -/
def commandWord (arg : Bool) (w : BitVec 6) (op : BitVec 4) : Word :=
  (0 : BitVec 21) ++ BitVec.ofBool arg ++ w ++ op

/-- The one word of a command (30 R50, R52). -/
def encode : Instr → Word
  | .nop => commandWord false 0 (opcode .nop)
  | .send w => commandWord false w (opcode (.send w))
  | .receive w => commandWord false w (opcode (.receive w))
  | .setOut l => commandWord l 0 (opcode (.setOut l))
  | .setIn p => commandWord p 0 (opcode (.setIn p))
  | .write l => commandWord l 0 (opcode (.write l))
  | .read => commandWord false 0 (opcode .read)
  | .abort => commandWord false 0 (opcode .abort)

/-- The command the decoder reads from an instruction whose low `nbits` bits are w's and whose other bits are 0, as
spec/opcode_table.json numbers the bits. A command is one 32-bit word (30 R49). -/
def decodeTableWord (nbits w : Nat) : Option Instr :=
  if w % 2 ^ nbits < 2 ^ 32 then
    match decode (BitVec.ofNat 32 (w % 2 ^ nbits)) with
    | .cmd i => some i
    | .bad _ => none
  else none

end Sys2Proof
end

