-- ==== Sys2Proof/Config.lean ====
section
/-!
DEFINITION. What an instance fixes at construction (00 R7) and the free values: what the environment of the block
decides, and the levels of the wire the spec leaves open (20 R46, R47). A free value is a constant without a body, so
nothing can be proved of what it is.
-/

namespace Sys2Proof

/-- The construction parameters of an instance (00 R7), constant for its lifetime. Their ranges are checked by
`Params.legal`. -/
structure Params where
  /-- FREQUENCY_HZ: required, no default. -/
  frequencyHz : Nat
  /-- WMAX: the largest payload width, default 32. -/
  wmax : Nat := 32
  /-- P2_TICKS: the length of waveform phase 2 in ticks, default 1. -/
  p2Ticks : Nat := 1
  /-- TIMEOUT_CYCLES: the receive timeout, default 0 (none). -/
  timeoutCycles : Nat := 0
deriving DecidableEq, Repr

/-- Whose host and reset a free draw is for: "each block is independent", with a reset and a host of its own (60 R106). A
block by itself is endpoint a (log entry 1). -/
inductive Endpoint where
  /-- The block by itself, or block A of the composition (20 R47). -/
  | a
  /-- Block B of the composition. -/
  | b
deriving DecidableEq, Repr

/-- The free draw of `rst` of an endpoint in its cycle n, where no input is listed (00 R17; log entry 1). -/
opaque Config.freeRst : Endpoint → Nat → Bool

/-- The free draw of `bus_op` of an endpoint in its cycle n, where no input is listed (00 R17, 20 R45; log entry 1). -/
opaque Config.freeBusOp : Endpoint → Nat → BitVec 2

/-- The free draw of `bus_addr` of an endpoint in its cycle n, where no input is listed (00 R17, 20 R45; log entry 1). -/
opaque Config.freeBusAddr : Endpoint → Nat → BusAddr

/-- The free draw of `bus_wdata` of an endpoint in its cycle n, where no input is listed (00 R17, 20 R45; log entry 1). -/
opaque Config.freeBusWdata : Endpoint → Nat → Word

/-- The free draw of `line_i` of an endpoint in its cycle n, where no input is listed (20 R46, 40 R61; log entry 1). -/
opaque Config.freeLine : Endpoint → Nat → Bool

/-- The level of a floating wire in cycle n of the composition: "any value in {0,1}, a fresh draw each cycle"
(20 R47, 70 R120; log entry 4). -/
opaque Config.floatingLevel : Nat → Bool

/-- The level both endpoints read in cycle n while the two blocks drive different levels. The spec calls the wire
CONTENTION then and gives it no level (20 R47, 91 N12; log entry 4). -/
opaque Config.contentionLevel : Nat → Bool

end Sys2Proof
end

