-- ==== Sys2Proof/Machine/State.lean ====
section
/-!
DEFINITION. The state of the block: every register of 10 R19, the construction parameters of 00 R7, and the model's own
list of the coming cycles' input ports; the reasons a step can stop; and the state after reset (10 R19, 70 R110).
-/

namespace Sys2Proof.Machine

/-- The sequencer state `fsm` (10 R19). Codes 5 to 7 are never written by any rule, so five values suffice (R19; log
entry 5). -/
inductive Fsm where
  /-- 0 IDLE. -/
  | idle
  /-- 1 TX. -/
  | tx
  /-- 2 RX_WAIT_HIGH: waiting for the sender's falling edge. -/
  | rxWaitHigh
  /-- 3 RX_DELAY: waiting for the sample point. -/
  | rxDelay
  /-- 4 RX_WAIT_LOW: waiting for the line's return to High. -/
  | rxWaitLow
deriving DecidableEq, Repr

/-- The line state (40 R56). -/
inductive LineState where
  /-- 0 IDLE_HIGH: input with pull toward High. -/
  | idleHigh
  /-- 1 DRIVEN_LOW: output, drives 0. -/
  | drivenLow
  /-- 2 DRIVEN_HIGH: output, drives 1. -/
  | drivenHigh
  /-- 3 FLOATING_INPUT: input without pull. -/
  | floatingInput
deriving DecidableEq, Repr

/-- The input ports of one cycle (10 R18), sampled at the rising edge that ends it (00 R12). -/
structure PortIn where
  /-- rst: synchronous reset, active high. -/
  rst : Bool
  /-- bus_op: 0 NONE, 1 READ, 2 WRITE, 3 NONE. -/
  busOp : BitVec 2
  /-- bus_addr: byte address. -/
  busAddr : BusAddr
  /-- bus_wdata. -/
  busWdata : Word
  /-- line_i: the level of the wire at the pad. -/
  lineI : Bool
deriving DecidableEq, Repr

/-- The state of one block. The registers are those of 10 R19 and no others; `cfg` are the parameters of 00 R7, which
no step changes; `inputs` and `cycle` are the model's own (log entry 1). -/
structure State where
  /-- The construction parameters (00 R7). -/
  cfg : Params
  /-- fsm: the sequencer state (10 R19). -/
  fsm : Fsm
  /-- line_state (10 R19, 40 R56). -/
  lineState : LineState
  /-- sync1: the first synchroniser stage (40 R60). -/
  sync1 : Bool
  /-- sync2: the second synchroniser stage, `line_s` (40 R60). -/
  sync2 : Bool
  /-- width: payload width of the current or last SEND or RECEIVE (10 R19). -/
  width : BitVec 6
  /-- bitidx: frame bits completed in the current or last SEND or RECEIVE (10 R19). -/
  bitidx : BitVec 6
  /-- phase: waveform phase of the current SEND bit (10 R19). -/
  phase : BitVec 2
  /-- tcnt: cycles left in the current phase or before the sample (10 R19, 60 R104). -/
  tcnt : BitVec 32
  /-- wdog: cycles spent in the current receive wait state (10 R19, 60 R104). -/
  wdog : BitVec 32
  /-- frame: the frame bits of the current SEND (10 R28). -/
  frame : Image
  /-- rxsh: the line samples of the current RECEIVE (10 R28). -/
  rxsh : Image
  /-- txdata: the TXDATA register (10 R23). -/
  txdata : Word
  /-- rxdata: the RXDATA register (10 R23). -/
  rxdata : Word
  /-- done: STATUS.DONE (10 R24). -/
  done : Bool
  /-- ferr: STATUS.FRAME_ERR (10 R24). -/
  ferr : Bool
  /-- tout: STATUS.TIMEOUT (10 R24). -/
  tout : Bool
  /-- cerr: STATUS.CMD_ERR (10 R24). -/
  cerr : Bool
  /-- abrt: STATUS.ABORTED (10 R24). -/
  abrt : Bool
  /-- ecause: STATUS.ERR_CAUSE (10 R24, 44 R95). -/
  ecause : BitVec 3
  /-- The input ports of the coming cycles, oldest first: the environment's part (00 R17), the model's own field. -/
  inputs : List PortIn
  /-- The number of cycles taken, which indexes the environment's free draws: the model's own field. -/
  cycle : Nat
deriving DecidableEq, Repr

/-- The faults. The block itself has none: it has no trap (60 R101), and no step of it answers with a fault. -/
inductive Fault where
  /-- CONTENTION (20 R47): the two blocks of the composition drive different levels. Recorded by the composition
  (`Pair.fault`), never cleared, and raised by no step of a single block. Safe: nothing is claimed of the level. -/
  | contention
deriving DecidableEq, Repr

/-- The refusals. -/
inductive Refusal where
  /-- Raised by an arm of `exec` for a command that has no meaning yet. No arm does. Safe. -/
  | notModelled (mnemonic : String)
  /-- Raised by the clock step of an instance whose parameters are outside the ranges of 00 R7: "A model refuses a
  configuration outside these ranges. It has no meaning for it." Safe. -/
  | illegalConfiguration
deriving DecidableEq, Repr

/-- The state right after reset of an instance with these parameters: the reset column of 10 R19 (70 R110), with
nothing listed of the environment. -/
def State.resetWith (p : Params) : State where
  cfg := p
  fsm := .idle
  lineState := .idleHigh
  sync1 := true
  sync2 := true
  width := 0
  bitidx := 0
  phase := 0
  tcnt := 0
  wdog := 0
  frame := 0
  rxsh := 0
  txdata := 0
  rxdata := 0
  done := false
  ferr := false
  tout := false
  cerr := false
  abrt := false
  ecause := 0
  inputs := []
  cycle := 0

/-- The parameters of the instance `State.reset` is of: the defaults of 00 R7, and FREQUENCY_HZ = 12000, for which R7
gives no default (DESIGN CHOICE, log entry 2: the frequency of the source's own example, 95 E1). -/
def referenceParams : Params := { frequencyHz := 12000 }

/-- The machine right after reset (70 R110). -/
def State.reset : State := State.resetWith referenceParams

end Sys2Proof.Machine
end

