-- ==== Sys2Proof/Machine/Operands.lean ====
section
/-!
DEFINITION. What the operands of a command stand for (30 R51): ARG as a level (SET_OUT, WRITE) and as a pull (SET_IN),
the value of SEND, the sampled line (READ), and the line's mode that WRITE and READ ask for (40 R56).
-/

namespace Sys2Proof.Machine

/-- `drv(b)`: the line state that drives level b (00 R13). -/
def drv (b : Bool) : LineState := if b then .drivenHigh else .drivenLow

/-- The input state a pull stands for: IDLE_HIGH with the pull, FLOATING_INPUT without (40 R63). -/
def pulled (p : Bool) : LineState := if p then .idleHigh else .floatingInput

/-- Output mode: DRIVEN_LOW or DRIVEN_HIGH (40 R56). -/
def outputMode : LineState → Bool
  | .idleHigh => false
  | .drivenLow => true
  | .drivenHigh => true
  | .floatingInput => false

/-- Input mode: IDLE_HIGH or FLOATING_INPUT (40 R56). -/
def inputMode : LineState → Bool
  | .idleHigh => true
  | .drivenLow => false
  | .drivenHigh => false
  | .floatingInput => true

/-- The value operand of SEND: TXDATA in the cycle of the write (30 R51). -/
def sendValue (s : State) : Word := s.txdata

/-- `line_s`, the synchronised line level that every reader uses (00 R13, 40 R60). -/
def lineS (s : State) : Bool := s.sync2

/-- The result READ delivers: the line level zero-extended to 32 bits (40 R65). -/
def lineWord (s : State) : Word := (BitVec.ofBool (lineS s)).setWidth 32

end Sys2Proof.Machine
end

