-- ==== Sys2Proof/WellFormed.lean ====
section
/-!
DEFINITION. The checks on what is given from outside: the ranges of the construction parameters (00 R7), and whether a
command's width fits an instance (00 R15, 42 R75, 43 R81). Every value of `Instr` has a command word (30 R52), so the
encoding asks nothing more of a command.
-/

namespace Sys2Proof

/-- FREQUENCY_HZ in its range, which makes a tick at least two cycles (00 R7, 92 D22). -/
def Params.frequencyOk (p : Params) : Bool := decide (1 ≤ p.frequencyHz) && decide (p.frequencyHz ≤ 166666)

/-- WMAX in its range (00 R7). -/
def Params.wmaxOk (p : Params) : Bool := decide (1 ≤ p.wmax) && decide (p.wmax ≤ 32)

/-- P2_TICKS is 1 or 2 (00 R7). -/
def Params.p2TicksOk (p : Params) : Bool := p.p2Ticks == 1 || p.p2Ticks == 2

/-- TIMEOUT_CYCLES fits 32 bits (00 R7). -/
def Params.timeoutOk (p : Params) : Bool := decide (p.timeoutCycles ≤ 2 ^ 32 - 1)

/-- A configuration inside the ranges of 00 R7: "A model refuses a configuration outside these ranges." -/
def Params.legal (p : Params) : Bool := p.frequencyOk && p.wmaxOk && p.p2TicksOk && p.timeoutOk

/-- A command whose width an instance can carry: 0 ≤ W ≤ WMAX for SEND and RECEIVE (42 R75, 43 R81). A command that is
not well formed in this sense still decodes, and is rejected with cause 4 (44 R92). -/
def Instr.wellFormed (p : Params) : Instr → Bool
  | .nop => true
  | .send w => decide (w.toNat ≤ p.wmax)
  | .receive w => decide (w.toNat ≤ p.wmax)
  | .setOut _ => true
  | .setIn _ => true
  | .write _ => true
  | .read => true
  | .abort => true

end Sys2Proof
end

