-- ==== Sys2Proof/Machine/Timing.lean ====
section
/-!
DEFINITION. The constants derived from the parameters (00 R8) and the values the cycle counters are loaded with (41
R73).
-/

namespace Sys2Proof.Machine

/-- TICK_CYCLES = floor(1_000_000 / (FREQUENCY_HZ * 3)): one tick in clock cycles of 1 µs (00 R8). -/
def tickCycles (p : Params) : Nat := 1000000 / (p.frequencyHz * 3)

/-- SAMPLE_DELAY = floor(3 * TICK_CYCLES / 2): 1.5 ticks (00 R8). -/
def sampleDelay (p : Params) : Nat := 3 * tickCycles p / 2

/-- BIT_CYCLES = 3 * TICK_CYCLES: the duration of one frame bit (00 R8). -/
def bitCycles (p : Params) : Nat := 3 * tickCycles p

/-- SYNC_STAGES: the depth of the input synchroniser (00 R8). -/
def syncStages : Nat := 2

/-- The width of the frame and sample registers: WMAX + 2 (00 R9). -/
def imageWidth (p : Params) : Nat := p.wmax + 2

/-- The number of frame bits of a payload width: W + 2 (41 R66). -/
def frameLength (w : BitVec 6) : Nat := w.toNat + 2

/-- The length of waveform phase 2 in cycles: P2_TICKS ticks (42 R76, R77). -/
def valuePhaseCycles (p : Params) : Nat := p.p2Ticks * tickCycles p

/-- The load value of a counter that is to reach 0 in its n-th cycle: n − 1 (41 R73). -/
def countFor (n : Nat) : BitVec 32 := BitVec.ofNat 32 (n - 1)

end Sys2Proof.Machine
end

