-- ==== Sys2Proof/Machine/Flags.lean ====
section
/-!
DEFINITION. What the status bits say: the codes of the STATUS fields, the STATUS word (10 R24), and the conditions the
sequencer tests (41 R73, 43 R82, R84).
-/

namespace Sys2Proof.Machine

/-- The code of `fsm` in STATUS.FSM (10 R19). -/
def fsmCode : Fsm → BitVec 3
  | .idle => 0
  | .tx => 1
  | .rxWaitHigh => 2
  | .rxDelay => 3
  | .rxWaitLow => 4

/-- The code of `line_state` in STATUS.LINE_STATE (40 R56). -/
def lineCode : LineState → BitVec 2
  | .idleHigh => 0
  | .drivenLow => 1
  | .drivenHigh => 2
  | .floatingInput => 3

/-- busy = (fsm ≠ IDLE) (10 R20). -/
def busy (s : State) : Bool := s.fsm != .idle

/-- The STATUS word (10 R24): reserved bits 31:21, then ERR_CAUSE, BITIDX, FSM, ABORTED, CMD_ERR, TIMEOUT, FRAME_ERR,
DONE, LINE, LINE_STATE, BUSY. -/
def statusWord (s : State) : Word :=
  (0 : BitVec 11) ++ s.ecause ++ s.bitidx ++ fsmCode s.fsm ++ BitVec.ofBool s.abrt ++ BitVec.ofBool s.cerr
    ++ BitVec.ofBool s.tout ++ BitVec.ofBool s.ferr ++ BitVec.ofBool s.done ++ BitVec.ofBool s.sync2
    ++ lineCode s.lineState ++ BitVec.ofBool (busy s)

/-- The completion test `bitidx + 1 = width + 2`, compared exactly (41 R73). -/
def lastBit (s : State) : Bool := s.bitidx.toNat + 1 == frameLength s.width

/-- The timeout test of a wait state: TIMEOUT_CYCLES ≠ 0 and wdog = TIMEOUT_CYCLES − 1 (43 R82, R84). -/
def timeoutDue (s : State) : Bool := s.cfg.timeoutCycles != 0 && s.wdog.toNat == s.cfg.timeoutCycles - 1

end Sys2Proof.Machine
end

