-- ==== Sys2Proof/Machine/Ops.lean ====
section
/-!
DEFINITION. The operations that several commands or the sequencer share: recording a rejected command, which is all this
block has of an exception (44 R94, 60 R101), and acknowledging it (10 R25, 60 R102); the acceptance checks (44 R92);
the register updates.
-/

namespace Sys2Proof.Machine

/-- The answer of a command or of a clock cycle. -/
abbrev Result := Host.Outcome State Fault Refusal

/-- f applied to the next state, a fault or refusal passed on. -/
def mapNext (f : State → State) : Result → Result
  | .next t => .next (f t)
  | .fault r => .fault r
  | .refused r => .refused r

/-- `raise CMD_ERR(k)`: cerr <- 1 and ecause <- k and nothing else (44 R94). -/
def raiseCmdErr (k : BitVec 3) (s : State) : State := { s with cerr := true, ecause := k }

/-- A write of v to STATUS: each of DONE, FRAME_ERR, TIMEOUT, CMD_ERR and ABORTED whose bit is 1 in v is cleared, and
ERR_CAUSE with CMD_ERR (10 R25). This is how a host acknowledges an error (60 R102). -/
def clearFlags (v : Word) (s : State) : State :=
  { s with
    done := s.done && !v.getLsbD 4
    ferr := s.ferr && !v.getLsbD 5
    tout := s.tout && !v.getLsbD 6
    cerr := s.cerr && !v.getLsbD 7
    abrt := s.abrt && !v.getLsbD 8
    ecause := if v.getLsbD 7 then 0 else s.ecause }

/-- `line_state <- l` (40 R59). -/
def setLine (l : LineState) (s : State) : State := { s with lineState := l }

/-- `txdata <- v` (20 R35). -/
def setTxdata (v : Word) (s : State) : State := { s with txdata := v }

/-- `rxdata <- v` (40 R65). -/
def setRxdata (v : Word) (s : State) : State := { s with rxdata := v }

/-- fsm <- IDLE and line_state <- IDLE_HIGH: the end of every SEND and RECEIVE, however it ends (42 R76, 43 R85, R86, 44
R97). -/
def release (s : State) : State := { s with fsm := .idle, lineState := .idleHigh }

/-- The synchroniser of one cycle: sync1 <- line_i, sync2 <- the pre-state's sync1 (40 R60). -/
def shiftSync (first line : Bool) (t : State) : State := { t with sync1 := line, sync2 := first }

/-- The rest k of a command's meaning, if the block is idle; otherwise the command is rejected with cause 3 (44 R92,
R93). -/
def whenIdle (s : State) (k : Result) : Result := if busy s then .next (raiseCmdErr 3 s) else k

/-- The rest k of a command's meaning, if W ≤ WMAX; otherwise the command is rejected with cause 4 (44 R92). -/
def whenFits (w : BitVec 6) (s : State) (k : Result) : Result :=
  if w.toNat ≤ s.cfg.wmax then k else .next (raiseCmdErr 4 s)

end Sys2Proof.Machine
end

