-- ==== Sys2Proof/Machine/Control.lean ====
section
/-!
DEFINITION. The control commands NOP and ABORT (44 R96, R97).
-/

namespace Sys2Proof.Machine

/-- NOP: no assignment, in every state (44 R96). -/
def execNop (s : State) : Result := .next s

/-- `Abort(s)` while busy: IDLE, IDLE_HIGH, ABORTED (44 R97). -/
def abortRunning (s : State) : State := release { s with abrt := true }

/-- ABORT: cancels a running SEND or RECEIVE; no assignment while idle (44 R97). -/
def execAbort (s : State) : Result := if busy s then .next (abortRunning s) else .next s

end Sys2Proof.Machine
end

