-- ==== Sys2Proof/Machine/LineDriver.lean ====
section
/-!
DEFINITION. The line driver: the pad outputs (40 R57) and the commands SET_OUT, SET_IN, WRITE and READ (40 R62 to R65).
-/

namespace Sys2Proof.Machine

/-- The pad outputs of a cycle (10 R18). -/
structure PadOut where
  /-- line_oe: the pad drives the wire. -/
  oe : Bool
  /-- line_o: the level driven when line_oe = 1. -/
  o : Bool
  /-- line_pu: the pull toward High is enabled. -/
  pu : Bool
deriving DecidableEq, Repr

/-- `Pad(line_state)` (40 R57). -/
def pad : LineState → PadOut
  | .idleHigh => { oe := false, o := true, pu := true }
  | .drivenLow => { oe := true, o := false, pu := false }
  | .drivenHigh => { oe := true, o := true, pu := false }
  | .floatingInput => { oe := false, o := true, pu := false }

/-- SET_OUT L (40 R62). -/
def execSetOut (l : Bool) (s : State) : Result := whenIdle s (.next (setLine (drv l) s))

/-- SET_IN P (40 R63). -/
def execSetIn (p : Bool) (s : State) : Result := whenIdle s (.next (setLine (pulled p) s))

/-- WRITE L: in output mode only, else cause 5 (40 R64). -/
def execWrite (l : Bool) (s : State) : Result :=
  whenIdle s (if outputMode s.lineState then .next (setLine (drv l) s) else .next (raiseCmdErr 5 s))

/-- READ: in input mode only, else cause 6 (40 R65). -/
def execRead (s : State) : Result :=
  whenIdle s (if inputMode s.lineState then .next (setRxdata (lineWord s) s) else .next (raiseCmdErr 6 s))

end Sys2Proof.Machine
end

