-- ==== Sys2Proof/Machine/Bits.lean ====
section
/-!
DEFINITION. Single bits of the frame and sample registers.
-/

namespace Sys2Proof.Machine

/-- The image with bit i set to v, the other bits kept. A bit above the register's 34 does not exist. -/
def setBit (b : Image) (i : Nat) (v : Bool) : Image :=
  if v then b ||| BitVec.twoPow 34 i else b &&& ~~~(BitVec.twoPow 34 i)

/-- The image whose low n bits are b's and whose other bits are 0. -/
def keepLow (n : Nat) (b : Image) : Image := b &&& BitVec.ofNat 34 (2 ^ n - 1)

end Sys2Proof.Machine
end

