-- ==== Sys2Proof/Machine/Codec.lean ====
section
/-!
DEFINITION. The frame codec: `Encode` (41 R67) and `Decode` (41 R70), bit by bit as the rules write them.
-/

namespace Sys2Proof.Machine

/-- The payload bits 0 to n − 1 of v at the image's bits 1 to n: the loop of `Encode` (41 R67). -/
def payloadImage (v : Word) : Nat → Image
  | 0 => 0
  | n + 1 => setBit (payloadImage v n) (n + 1) (v.getLsbD n)

/-- `Encode(v, W)`: start bit 0, the low W bits of v least significant first, stop bit 1, zeros above (41 R66, R67). -/
def frameEncode (v : Word) (w : Nat) : Image := setBit (payloadImage v w) (w + 1) true

/-- The bits 1 to n of the image as the bits 0 to n − 1 of a word: the loop of `Decode` (41 R70). -/
def frameDecode (b : Image) : Nat → Word
  | 0 => 0
  | n + 1 => if b.getLsbD (n + 1) then frameDecode b n ||| BitVec.twoPow 32 n else frameDecode b n

/-- A bad start or stop sample of a frame of width W: the condition of FRAME_ERR (43 R85). -/
def framingBad (b : Image) (w : Nat) : Bool := b.getLsbD 0 || !b.getLsbD (w + 1)

end Sys2Proof.Machine
end

