-- ==== Sys2Proof/Machine/Receive.lean ====
section
/-!
DEFINITION. RECEIVE: its acceptance (43 R81), the recovery loop (43 R82 to R84), completion (43 R85) and timeout
(43 R86). Each sequencer function makes its assignments, computed from s, on t.
-/

namespace Sys2Proof.Machine

/-- `RxAccept(W)`: the assignments of an accepted RECEIVE (43 R81). -/
def rxAccept (w : BitVec 6) (s : State) : State :=
  { s with width := w, bitidx := 0, rxsh := 0, wdog := 0, lineState := .idleHigh, fsm := .rxWaitHigh }

/-- RECEIVE W (43 R81; checks of 44 R92). -/
def execReceive (w : BitVec 6) (s : State) : Result := whenIdle s (whenFits w s (.next (rxAccept w s)))

/-- `RxTimeout` (43 R86). -/
def rxTimeout (t : State) : State := release { t with tout := true }

/-- `RxComplete` (43 R85). -/
def rxComplete (s t : State) : State :=
  release
    { t with
      rxdata := frameDecode s.rxsh s.width.toNat
      done := true
      ferr := t.ferr || framingBad s.rxsh s.width.toNat }

/-- The cycle in RX_WAIT_HIGH (43 R82). -/
def rxWaitHighStep (s t : State) : State :=
  if lineS s = false then { t with fsm := .rxDelay, tcnt := countFor (sampleDelay s.cfg) }
  else if timeoutDue s then rxTimeout t
  else { t with wdog := s.wdog + 1 }

/-- `rxsh[bitidx] <- line_s`, in the WMAX + 2 bits the register has (10 R28, 43 R83). -/
def storeSample (s : State) : Image := keepLow (imageWidth s.cfg) (setBit s.rxsh s.bitidx.toNat (lineS s))

/-- The cycle in RX_DELAY (43 R83). -/
def rxDelayStep (s t : State) : State :=
  if s.tcnt ≠ 0 then { t with tcnt := s.tcnt - 1 }
  else { t with rxsh := storeSample s, fsm := .rxWaitLow, wdog := 0 }

/-- The cycle in RX_WAIT_LOW (43 R84). -/
def rxWaitLowStep (s t : State) : State :=
  if lineS s = true then
    if lastBit s then rxComplete s { t with bitidx := s.bitidx + 1, wdog := 0 }
    else { t with bitidx := s.bitidx + 1, wdog := 0, fsm := .rxWaitHigh }
  else if timeoutDue s then rxTimeout t
  else { t with wdog := s.wdog + 1 }

end Sys2Proof.Machine
end

