-- ==== Sys2Proof/Machine/Send.lean ====
section
/-!
DEFINITION. SEND: its acceptance (42 R75) and the transmit sequencer (42 R76).
-/

namespace Sys2Proof.Machine

/-- The start of phase 1 of a frame bit: the line goes Low for one tick (42 R75, R76). -/
def startLowPhase (p : Params) (t : State) : State :=
  { t with phase := 1, lineState := .drivenLow, tcnt := countFor (tickCycles p) }

/-- `TxAccept(s, W)`: the assignments of an accepted SEND (42 R75). -/
def txAccept (w : BitVec 6) (s : State) : State :=
  startLowPhase s.cfg { s with frame := frameEncode (sendValue s) w.toNat, width := w, bitidx := 0, fsm := .tx }

/-- SEND W (42 R75; checks of 44 R92). -/
def execSend (w : BitVec 6) (s : State) : Result := whenIdle s (whenFits w s (.next (txAccept w s)))

/-- The frame bit being sent, `frame[bitidx]` (42 R76). -/
def frameBit (s : State) : Bool := s.frame.getLsbD s.bitidx.toNat

/-- `TxStep(s)` (42 R76): the assignments, computed from s, made on t. -/
def txStep (s t : State) : State :=
  if s.tcnt ≠ 0 then { t with tcnt := s.tcnt - 1 }
  else if s.phase = 1 then
    { t with phase := 2, lineState := drv (frameBit s), tcnt := countFor (valuePhaseCycles s.cfg) }
  else if s.phase = 2 ∧ s.cfg.p2Ticks = 1 then
    { t with phase := 3, lineState := .drivenHigh, tcnt := countFor (tickCycles s.cfg) }
  else if lastBit s then release { t with bitidx := s.bitidx + 1, done := true }
  else startLowPhase s.cfg { t with bitidx := s.bitidx + 1 }

end Sys2Proof.Machine
end

