-- ==== Sys2Proof/Machine/Dispatch.lean ====
section
/-!
DEFINITION. One arm per command of spec/opcode_table.json: what a decoded command written to CMD assigns in the cycle of
its write, `CmdWrite` of 44 R92 after its decode. The sequencer's and the synchroniser's assignments of the same cycle
are the clock step's (Machine/Clock.lean).
-/

namespace Sys2Proof.Machine

def exec (i : Instr) (s : State) : Host.Outcome State Fault Refusal :=
  match i with
  | .nop => Sys2Proof.Machine.execNop s
  | .send w => Sys2Proof.Machine.execSend w s
  | .receive w => Sys2Proof.Machine.execReceive w s
  | .setOut l => Sys2Proof.Machine.execSetOut l s
  | .setIn p => Sys2Proof.Machine.execSetIn p s
  | .write l => Sys2Proof.Machine.execWrite l s
  | .read => Sys2Proof.Machine.execRead s
  | .abort => Sys2Proof.Machine.execAbort s

end Sys2Proof.Machine
end

