-- ==== Sys2Proof/Machine/Registers.lean ====
section
/-!
DEFINITION. The register window: address decode (20 R33), reads (20 R34, 10 R26) and writes (20 R35), the write to CMD
among them (44 R92).
-/

namespace Sys2Proof.Machine

/-- What `bus_op` asks for (10 R18). -/
inductive BusKind where
  /-- 0 or 3: NONE. -/
  | none
  /-- 1: READ. -/
  | read
  /-- 2: WRITE. -/
  | write
deriving DecidableEq, Repr

/-- The meaning of the two bits of `bus_op` (10 R18). -/
def busKind (op : BitVec 2) : BusKind :=
  match op.toNat with
  | 1 => .read
  | 2 => .write
  | _ => .none

/-- The register number of an address: `bus_addr[4:2]`; `bus_addr[1:0]` is ignored (20 R33). -/
def registerIndex (a : BusAddr) : BitVec 3 := a.extractLsb' 2 3

/-- The INFO word (10 R26): SYNC_STAGES in bits 15:12, P2_TICKS in 9:8, WMAX in 5:0, other bits 0. -/
def infoWord (p : Params) : Word :=
  (0 : BitVec 16) ++ BitVec.ofNat 4 syncStages ++ (0 : BitVec 2) ++ BitVec.ofNat 2 p.p2Ticks ++ (0 : BitVec 2)
    ++ BitVec.ofNat 6 p.wmax

/-- `ReadValue(s, a)` (20 R34). -/
def readValue (s : State) (a : BusAddr) : Word :=
  match (registerIndex a).toNat with
  | 0 => 0
  | 1 => statusWord s
  | 2 => s.txdata
  | 3 => s.rxdata
  | 4 => BitVec.ofNat 32 (tickCycles s.cfg)
  | 5 => BitVec.ofNat 32 (sampleDelay s.cfg)
  | 6 => BitVec.ofNat 32 s.cfg.timeoutCycles
  | _ => infoWord s.cfg

/-- `CmdWrite(s, v)` (44 R92): a word that does not decode is rejected with its cause, a command is executed. -/
def cmdWrite (s : State) (v : Word) : Result :=
  match decode v with
  | .bad e => .next (raiseCmdErr (decodeCause e) s)
  | .cmd i => exec i s

/-- The assignments of a bus WRITE of v at address a (20 R35). -/
def registerWrite (s : State) (a : BusAddr) (v : Word) : Result :=
  match (registerIndex a).toNat with
  | 0 => cmdWrite s v
  | 1 => .next (clearFlags v s)
  | 2 => .next (setTxdata v s)
  | _ => .next s

/-- `BusUpdate(s, in)`: the assignments of the cycle's bus operation; only a WRITE has any (10 R30, 20 R34, R35). -/
def busUpdate (s : State) (i : PortIn) : Result :=
  match busKind i.busOp with
  | .write => registerWrite s i.busAddr i.busWdata
  | .read => .next s
  | .none => .next s

end Sys2Proof.Machine
end

