-- ==== Sys2Proof/Machine/Clock.lean ====
section
/-!
DEFINITION. One clock cycle (10 R30), its outputs (10 R31), and where a cycle's input ports come from (00 R17).
-/

namespace Sys2Proof.Machine

/-- `SeqUpdate(s)`: the sequencer's assignments of the cycle, computed from s, made on t (10 R30 step 3). -/
def seqUpdate (s t : State) : State :=
  match s.fsm with
  | .idle => t
  | .tx => txStep s t
  | .rxWaitHigh => rxWaitHighStep s t
  | .rxDelay => rxDelayStep s t
  | .rxWaitLow => rxWaitLowStep s t

/-- The cycle's bus operation writes the word of ABORT to CMD (44 R97). -/
def writesAbort (i : PortIn) : Bool :=
  busKind i.busOp == .write && registerIndex i.busAddr == 0 && decode i.busWdata == .cmd .abort

/-- An accepted ABORT with a running command, which discards the sequencer's assignments (10 R30 step 5). -/
def abortWins (s : State) (i : PortIn) : Bool := busy s && writesAbort i

/-- The registers of s replaced by RESET; the parameters and the environment are not registers (70 R110). -/
def toReset (s : State) : State := { State.resetWith s.cfg with inputs := s.inputs, cycle := s.cycle }

/-- The sequencer's and the synchroniser's part of a cycle without reset, over the state b that the bus operation left:
10 R30 steps 2, 3 and 5. The sequencer's assignments come last, so a flag it sets survives a write-one-to-clear of the
same cycle; otherwise the two never assign one register, or the ABORT discards the sequencer's (log entry 6). -/
def finishCycle (s : State) (i : PortIn) (b : State) : State :=
  shiftSync s.sync1 i.lineI (if abortWins s i then b else seqUpdate s b)

/-- `Step(s, in)` (10 R30): reset first, else the bus operation, the sequencer and the synchroniser. An instance with
illegal parameters is refused (00 R7). -/
def clock (s : State) (i : PortIn) : Result :=
  if s.cfg.legal then
    if i.rst then .next (toReset s) else mapNext (finishCycle s i) (busUpdate s i)
  else .refused .illegalConfiguration

/-- The output ports of a cycle (10 R18, R31). -/
structure PortOut where
  /-- line_oe, line_o, line_pu. -/
  pads : PadOut
  /-- bus_rdata. -/
  busRdata : Word
deriving DecidableEq, Repr

/-- The outputs during a cycle: the pad is a function of line_state alone, `bus_rdata` is the register read in a READ
and 0 otherwise (10 R31). -/
def outputs (s : State) (i : PortIn) : PortOut where
  pads := pad s.lineState
  busRdata := match busKind i.busOp with
    | .read => readValue s i.busAddr
    | .write => 0
    | .none => 0

/-- The free draw of an endpoint's input ports in its cycle n (00 R17, 20 R46; log entry 1). -/
def freeInput (e : Endpoint) (n : Nat) : PortIn where
  rst := Config.freeRst e n
  busOp := Config.freeBusOp e n
  busAddr := Config.freeBusAddr e n
  busWdata := Config.freeBusWdata e n
  lineI := Config.freeLine e n

/-- The input ports of the coming cycle of a block that is the endpoint e: the next listed ones, or a free draw of that
endpoint's own (00 R17, 60 R106; log entry 1). -/
def endpointInput (e : Endpoint) (s : State) : PortIn :=
  match s.inputs with
  | [] => freeInput e s.cycle
  | i :: _ => i

/-- The input ports of the coming cycle of a block by itself (log entry 1). -/
def nextInput (s : State) : PortIn := endpointInput .a s

/-- The cycle is over: its input ports are gone. -/
def passCycle (t : State) : State := { t with inputs := t.inputs.tail, cycle := t.cycle + 1 }

/-- A cycle in which the host writes v to the register at address a, without reset, the wire at the given level. -/
def writeCycle (a : BusAddr) (v : Word) (line : Bool) : PortIn where
  rst := false
  busOp := 2
  busAddr := a
  busWdata := v
  lineI := line

/-- The command word of `nbits` bits w, the bits above being 0 (30 R49). -/
def fetchWord (nbits w : Nat) : Word := BitVec.ofNat 32 (w % 2 ^ nbits)

/-- s with one more cycle before those listed: the host writes v to CMD, the wire at its idle level (log entry 1). -/
def withCommand (s : State) (v : Word) : State := { s with inputs := writeCycle 0x00 v true :: s.inputs }

end Sys2Proof.Machine
end

