-- ==== Sys2Proof/Machine/Step.lean ====
section
/-!
DEFINITION. The machine's step: one clock cycle with the next input ports (00 R12, 10 R30).
-/

namespace Sys2Proof.Machine

/-- One clock cycle of the block (10 R30). -/
def step (s : State) : Host.Outcome State Fault Refusal := mapNext passCycle (clock s (nextInput s))

/-- s with the instruction w in the cycle that comes next: the host writes it to CMD (20 R35, 30 R49). -/
def State.withFetchWord (s : State) (nbits w : Nat) : State := withCommand s (fetchWord nbits w)

end Sys2Proof.Machine
end

