-- ==== Sys2Proof/Machine/Wire.lean ====
section
/-!
DEFINITION. The two-endpoint composition of 20 R47: two blocks on one wire, the same clock in phase, no propagation
delay. It is the spec's test environment, not part of the block.
-/

namespace Sys2Proof.Machine

/-- What the wire is in a cycle (20 R47). -/
inductive WireState where
  /-- A level: driven by one endpoint or by both alike, or pulled High. -/
  | level (b : Bool)
  /-- CONTENTION: both endpoints drive, different levels. -/
  | contention
  /-- Nobody drives and nobody pulls. -/
  | floating
deriving DecidableEq, Repr

/-- `Wire(n)` of 20 R47 from the pads of the two endpoints. -/
def wireState (a b : PadOut) : WireState :=
  if a.oe && b.oe then if a.o == b.o then .level a.o else .contention
  else if a.oe then .level a.o
  else if b.oe then .level b.o
  else if a.pu || b.pu then .level true
  else .floating

/-- The level both endpoints read in cycle n: the wire's, or a free draw where it has none (20 R47; log entry 4). -/
def wireLevel (n : Nat) : WireState → Bool
  | .level b => b
  | .contention => Config.contentionLevel n
  | .floating => Config.floatingLevel n

/-- Two blocks on one wire (20 R47, 60 R106). -/
structure Pair where
  /-- Endpoint A. -/
  a : State
  /-- Endpoint B. -/
  b : State
  /-- The recorded CONTENTION: "the model records it and never clears it" (20 R47). -/
  fault : Option Fault
  /-- The number of cycles taken, which indexes the free draws of the wire. -/
  cycle : Nat
deriving DecidableEq, Repr

/-- The wire of the pair in this cycle. -/
def pairWire (p : Pair) : WireState := wireState (pad p.a.lineState) (pad p.b.lineState)

/-- CONTENTION joins the record and is never cleared (20 R47). -/
def recordFault (w : WireState) (f : Option Fault) : Option Fault :=
  match w with
  | .contention => some .contention
  | .level _ => f
  | .floating => f

/-- One cycle of the pair, with the reset and bus ports of both hosts; `A.line_i = B.line_i = Wire` replaces the
`line_i` given (20 R47). -/
def pairClock (p : Pair) (ia ib : PortIn) : Host.Outcome Pair Fault Refusal :=
  match clock p.a { ia with lineI := wireLevel p.cycle (pairWire p) },
      clock p.b { ib with lineI := wireLevel p.cycle (pairWire p) } with
  | .next a, .next b => .next { a := a, b := b, fault := recordFault (pairWire p) p.fault, cycle := p.cycle + 1 }
  | .fault r, _ => .fault r
  | .refused r, _ => .refused r
  | .next _, .fault r => .fault r
  | .next _, .refused r => .refused r

/-- One cycle of the pair with each block's own coming reset and bus ports. Each block has a host and a reset of its own
(60 R106), unconstrained (00 R17): where a block lists nothing, its ports are free draws of its own endpoint, which
nothing ties to the other's (log entry 1). -/
def pairStep (p : Pair) : Host.Outcome Pair Fault Refusal :=
  match pairClock p (endpointInput .a p.a) (endpointInput .b p.b) with
  | .next q => .next { q with a := passCycle q.a, b := passCycle q.b }
  | .fault r => .fault r
  | .refused r => .refused r

/-- Two endpoints just after their resets, with these parameters (60 R106). -/
def Pair.resetWith (pa pb : Params) : Pair where
  a := State.resetWith pa
  b := State.resetWith pb
  fault := none
  cycle := 0

end Sys2Proof.Machine
end

