-- ==== Sys2Proof/Machine/HostProgram.lean ====
section
/-!
DEFINITION. The host-program syntax of 30 R54 and R55 and what a host running it does in a cycle (20 R45): the spec's
notation for its examples, an agent outside the block.
-/

namespace Sys2Proof.Machine

/-- A line of a host program (30 R54) or a pseudo-instruction (30 R55). -/
inductive HostLine where
  /-- NOP, SEND W, RECEIVE W, SET_OUT L, SET_IN P, WRITE L, READ, ABORT: `WR CMD` of the command's word. -/
  | command (i : Instr)
  /-- `WR R, imm32`. -/
  | wr (a : BusAddr) (v : Word)
  /-- `RD R`. -/
  | rd (a : BusAddr)
  /-- `IDLE n`: n cycles of NONE. -/
  | idle (n : Nat)
  /-- `.word c`: `WR CMD` of a raw word. -/
  | word (c : Word)
  /-- `SYNC` = `SEND 0`. -/
  | sync
  /-- `SYNCWAIT` = `RECEIVE 0`. -/
  | syncWait
  /-- `TX v, W` = `WR TXDATA, v` then `SEND W`. -/
  | tx (v : Word) (w : BitVec 6)
  /-- `POLL`: `RD STATUS` each cycle until BUSY reads 0. -/
  | poll
  /-- `CLR m` = `WR STATUS, m`. -/
  | clr (m : Word)
deriving DecidableEq, Repr

/-- A line with the cycle `@n:` it is issued in, if it names one (30 R54). -/
structure TimedLine where
  /-- n of `@n:`. -/
  at? : Option Nat
  /-- The line. -/
  line : HostLine
deriving DecidableEq, Repr

/-- A host operation of one cycle (20 R45). -/
inductive BusOp where
  /-- NONE. -/
  | none
  /-- READ(a). -/
  | read (a : BusAddr)
  /-- WRITE(a, v). -/
  | write (a : BusAddr) (v : Word)
deriving DecidableEq, Repr

/-- The offset of CMD (10 R23). -/
def cmdAddr : BusAddr := 0x00
/-- The offset of STATUS (10 R23). -/
def statusAddr : BusAddr := 0x04
/-- The offset of TXDATA (10 R23). -/
def txdataAddr : BusAddr := 0x08
/-- The offset of RXDATA (10 R23). -/
def rxdataAddr : BusAddr := 0x0C
/-- The offset of TICK (10 R23). -/
def tickAddr : BusAddr := 0x10
/-- The offset of SAMPLE (10 R23). -/
def sampleAddr : BusAddr := 0x14
/-- The offset of TIMEOUT (10 R23). -/
def timeoutAddr : BusAddr := 0x18
/-- The offset of INFO (10 R23). -/
def infoAddr : BusAddr := 0x1C

/-- The ports of a cycle in which the host does `op` (10 R18). -/
def portsOf (rst : Bool) (op : BusOp) (line : Bool) : PortIn :=
  match op with
  | .none => { rst := rst, busOp := 0, busAddr := 0, busWdata := 0, lineI := line }
  | .read a => { rst := rst, busOp := 1, busAddr := a, busWdata := 0, lineI := line }
  | .write a v => { rst := rst, busOp := 2, busAddr := a, busWdata := v, lineI := line }

/-- What the host does in cycle n with the program before it, and the program left after the cycle (30 R54, R55). The
host decides on what it reads in the cycle: POLL ends with the read that shows BUSY = 0. A line whose `@n:` has passed
is issued at once (log entry 8). -/
def hostCycle (n : Nat) (s : State) : List TimedLine → BusOp × List TimedLine
  | [] => (.none, [])
  | l :: rest =>
    if n < l.at?.getD 0 then (.none, l :: rest)
    else
      match l.line with
      | .command i => (.write cmdAddr (encode i), rest)
      | .wr a v => (.write a v, rest)
      | .rd a => (.read a, rest)
      | .idle 0 => hostCycle n s rest
      | .idle (k + 1) => (.none, { at? := none, line := .idle k } :: rest)
      | .word c => (.write cmdAddr c, rest)
      | .sync => (.write cmdAddr (encode (.send 0)), rest)
      | .syncWait => (.write cmdAddr (encode (.receive 0)), rest)
      | .tx v w => (.write txdataAddr v, { at? := none, line := .command (.send w) } :: rest)
      | .poll => (.read statusAddr, if (readValue s statusAddr).getLsbD 0 then l :: rest else rest)
      | .clr m => (.write statusAddr m, rest)

/-- The spec's bench: a pair of blocks, each with a host running a program (95 conventions). -/
structure Bench where
  /-- The two blocks and their wire. -/
  pair : Pair
  /-- What the host of A has still to do. -/
  hostA : List TimedLine
  /-- What the host of B has still to do. -/
  hostB : List TimedLine
deriving DecidableEq, Repr

/-- One cycle of the bench. Neither block is reset in it: 30 R54 has no line for a reset (log entry 8). -/
def benchStep (x : Bench) : Host.Outcome Bench Fault Refusal :=
  match pairClock x.pair (portsOf false (hostCycle x.pair.cycle x.pair.a x.hostA).1 true)
      (portsOf false (hostCycle x.pair.cycle x.pair.b x.hostB).1 true) with
  | .next q =>
    .next { pair := q, hostA := (hostCycle x.pair.cycle x.pair.a x.hostA).2,
            hostB := (hostCycle x.pair.cycle x.pair.b x.hostB).2 }
  | .fault r => .fault r
  | .refused r => .refused r

end Sys2Proof.Machine
end

