-- ==== Sys2Proof/Safety.lean ====
section
/-!
DEFINITION. The terms claims are stated in: runs of the machine, the cycles that leave a transfer alone, the waveform on
the wire (42 R77), and the invariant of the block's registers.
-/

namespace Sys2Proof.Machine

/-- n clock cycles from s. -/
def run (n : Nat) (s : State) : Result := Host.Core.run Sys2Proof.core n s

/-- The cycle's bus operation is a WRITE to register k (20 R33, R35). -/
abbrev writesRegister (i : PortIn) (k : BitVec 3) : Prop := busKind i.busOp = .write ∧ registerIndex i.busAddr = k

/-- The cycle's bus operation writes a word of the command c to CMD. -/
abbrev writesCommand (i : PortIn) (c : Instr) : Prop := writesRegister i 0 ∧ decode i.busWdata = .cmd c

/-- A cycle without reset and without an ABORT. -/
def calm (i : PortIn) : Bool := !i.rst && !writesAbort i

/-- A cycle without reset and without a bus WRITE. -/
def quiet (i : PortIn) : Bool := !i.rst && busKind i.busOp != .write

/-- The level a sender drives k cycles after its frame's first Low cycle, and the idle level after its last bit: the
table of 42 R77 for the frame image f of a width-w frame. -/
def waveLevel (p : Params) (f : Image) (w : BitVec 6) (k : Nat) : Bool :=
  if bitCycles p * frameLength w ≤ k then true
  else if k % bitCycles p < tickCycles p then false
  else if k % bitCycles p < tickCycles p + valuePhaseCycles p then f.getLsbD (k / bitCycles p)
  else true

/-- The wire before and during a frame that begins at index d: High before, the waveform of a sender with P2_TICKS = 1
from there (43 R88). -/
def wireWithFrame (p : Params) (f : Image) (w : BitVec 6) (d k : Nat) : Bool :=
  if k < d then true else waveLevel { p with p2Ticks := 1 } f w (k - d)

/-- What the transmitter's registers are in each phase of a bit (42 R76): the line state of the phase and a count below
the phase's length. -/
abbrev TxPhaseOk (s : State) : Prop :=
  (s.phase = 1 ∧ s.lineState = .drivenLow ∧ s.tcnt.toNat < tickCycles s.cfg) ∨
  (s.phase = 2 ∧ s.lineState = drv (frameBit s) ∧ s.tcnt.toNat < valuePhaseCycles s.cfg) ∨
  (s.phase = 3 ∧ s.cfg.p2Ticks = 1 ∧ s.lineState = .drivenHigh ∧ s.tcnt.toNat < tickCycles s.cfg)

/-- The invariant of the block: what its registers satisfy in every state that a run from reset reaches. -/
structure Inv (s : State) : Prop where
  /-- The parameters are in their ranges (00 R7). -/
  legal : s.cfg.legal = true
  /-- The width is one the instance can carry (44 R92). -/
  width_le : s.width.toNat ≤ s.cfg.wmax
  /-- bitidx stops at width + 2 (10 R22, 41 R73). -/
  bitidx_le : s.bitidx.toNat ≤ frameLength s.width
  /-- While busy, a frame bit is still to come. -/
  bitidx_lt : s.fsm ≠ .idle → s.bitidx.toNat < frameLength s.width
  /-- A SEND is in one of the three phases of its bit, the line driven accordingly (42 R76, R77). -/
  tx_phase : s.fsm = .tx → TxPhaseOk s
  /-- The frame of a SEND has its start bit 0 and its stop bit 1 (41 R66). -/
  tx_frame : s.fsm = .tx → s.frame.getLsbD 0 = false ∧ s.frame.getLsbD (s.width.toNat + 1) = true
  /-- During a RECEIVE the line state is IDLE_HIGH (40 R59). -/
  rx_line : s.fsm = .rxWaitHigh ∨ s.fsm = .rxDelay ∨ s.fsm = .rxWaitLow → s.lineState = .idleHigh
  /-- The sample delay's count is below SAMPLE_DELAY (10 R22). -/
  delay_lt : s.fsm = .rxDelay → s.tcnt.toNat < sampleDelay s.cfg
  /-- With a timeout, wdog ≤ TIMEOUT_CYCLES − 1 (41 R73). -/
  wdog_lt : s.cfg.timeoutCycles ≠ 0 → s.wdog.toNat < s.cfg.timeoutCycles
  /-- frame has WMAX + 2 bits (10 R28). -/
  frame_bits : s.frame.toNat < 2 ^ imageWidth s.cfg
  /-- rxsh has WMAX + 2 bits (10 R28). -/
  rxsh_bits : s.rxsh.toNat < 2 ^ imageWidth s.cfg
  /-- ERR_CAUSE is 0 exactly while CMD_ERR is clear (44 R95, 10 R25). -/
  cause_iff : s.cerr = false ↔ s.ecause = 0
  /-- ERR_CAUSE 7 is never written (44 R95). -/
  cause_le : s.ecause.toNat ≤ 6

end Sys2Proof.Machine
end

