-- ==== Sys2Proof/Certificates/Slice0/Obligations.lean ====
section
/-!
DEFINITION. The statements for the provers. Each formalises rules of spec/ named in its docstring.
-/

open Sys2Proof Sys2Proof.Machine

/-! ### Encoding -/

/-- 30 R52: a word decodes to a command exactly when it is that command's word, so each command has one word. -/
def Obligations.DecodeInvertsEncode : Prop :=
  ∀ (c : Word) (i : Instr), decode c = .cmd i ↔ c = encode i

/-- 30 R52: the decode function's checks in their order, the fields read by their bit positions, and its injectivity. -/
def Obligations.DecodeClassifiesEveryWord : Prop :=
  (∀ c : Word, 8 ≤ (c.extractLsb' 0 4).toNat → decode c = .bad .reservedOpcode) ∧
  (∀ c : Word, (c.extractLsb' 0 4).toNat < 8 → c.extractLsb' 11 21 ≠ 0 → decode c = .bad .fieldNotZero) ∧
  (∀ c : Word, c.extractLsb' 11 21 = 0 →
    ((c.extractLsb' 0 4 = 0 → decode c = if c.extractLsb' 4 7 = 0 then .cmd .nop else .bad .fieldNotZero) ∧
     (c.extractLsb' 0 4 = 1 →
        decode c = if c.getLsbD 10 then .bad .fieldNotZero else .cmd (.send (c.extractLsb' 4 6))) ∧
     (c.extractLsb' 0 4 = 2 →
        decode c = if c.getLsbD 10 then .bad .fieldNotZero else .cmd (.receive (c.extractLsb' 4 6))) ∧
     (c.extractLsb' 0 4 = 3 →
        decode c = if c.extractLsb' 4 6 = 0 then .cmd (.setOut (c.getLsbD 10)) else .bad .fieldNotZero) ∧
     (c.extractLsb' 0 4 = 4 →
        decode c = if c.extractLsb' 4 6 = 0 then .cmd (.setIn (c.getLsbD 10)) else .bad .fieldNotZero) ∧
     (c.extractLsb' 0 4 = 5 →
        decode c = if c.extractLsb' 4 6 = 0 then .cmd (.write (c.getLsbD 10)) else .bad .fieldNotZero) ∧
     (c.extractLsb' 0 4 = 6 → decode c = if c.extractLsb' 4 7 = 0 then .cmd .read else .bad .fieldNotZero) ∧
     (c.extractLsb' 0 4 = 7 → decode c = if c.extractLsb' 4 7 = 0 then .cmd .abort else .bad .fieldNotZero))) ∧
  decodeCause .reservedOpcode = 1 ∧ decodeCause .fieldNotZero = 2 ∧
  (∀ (c c' : Word) (i : Instr), decode c = .cmd i → decode c' = .cmd i → c = c')

/-- 30 R53: "exactly 1 + 64 + 64 + 2 + 2 + 2 + 1 + 1 = 137 decode to a command". -/
def Obligations.ExactlyOneHundredThirtySevenWordsDecode : Prop :=
  ∃ l : List Word, l.length = 137 ∧ l.Nodup ∧ ∀ c : Word, (∃ i, decode c = .cmd i) ↔ c ∈ l

/-- 30 R50: the word of each opcode, WIDTH at bit 4 and ARG at bit 10. -/
def Obligations.CommandWordsOfTheOpcodeMap : Prop :=
  encode .nop = 0x00000000 ∧
  (∀ w : BitVec 6, encode (.send w) = 0x00000001 ||| (w.setWidth 32 <<< 4)) ∧
  (∀ w : BitVec 6, encode (.receive w) = 0x00000002 ||| (w.setWidth 32 <<< 4)) ∧
  (∀ l : Bool, encode (.setOut l) = 0x00000003 ||| ((BitVec.ofBool l).setWidth 32 <<< 10)) ∧
  (∀ p : Bool, encode (.setIn p) = 0x00000004 ||| ((BitVec.ofBool p).setWidth 32 <<< 10)) ∧
  (∀ l : Bool, encode (.write l) = 0x00000005 ||| ((BitVec.ofBool l).setWidth 32 <<< 10)) ∧
  encode .read = 0x00000006 ∧
  encode .abort = 0x00000007 ∧
  (∀ c : Word, 8 ≤ (c.extractLsb' 0 4).toNat → ∀ i, decode c ≠ .cmd i)

/-- 95 V2: its 17 words, and a word of each command that V2 has none of. -/
def Obligations.TableWordsDecode : Prop :=
  decode 0x00000000 = .cmd .nop ∧ decode 0x00000031 = .cmd (.send 3) ∧ decode 0x00000201 = .cmd (.send 32) ∧
  decode 0x00000211 = .cmd (.send 33) ∧ decode 0x000003F1 = .cmd (.send 63) ∧
  decode 0x00000032 = .cmd (.receive 3) ∧ decode 0x00000282 = .cmd (.receive 40) ∧
  decode 0x00000403 = .cmd (.setOut true) ∧ decode 0x00000404 = .cmd (.setIn true) ∧
  decode 0x00000005 = .cmd (.write false) ∧ decode 0x00000006 = .cmd .read ∧ decode 0x00000007 = .cmd .abort ∧
  decode 0x0000000F = .bad .reservedOpcode ∧ decode 0x80000008 = .bad .reservedOpcode ∧
  decode 0x00000010 = .bad .fieldNotZero ∧ decode 0x00000401 = .bad .fieldNotZero ∧
  decode 0x00000013 = .bad .fieldNotZero ∧ decode 0x00000016 = .bad .fieldNotZero ∧
  decode 0x00000406 = .bad .fieldNotZero ∧ decode 0x00000407 = .bad .fieldNotZero ∧
  decode 0x80000001 = .bad .fieldNotZero ∧ decode 0x00000800 = .bad .fieldNotZero

/-! ### Commands: each arm's next state. The equations give every register, so they are the frames as well. -/

/-- 44 R96: NOP makes no assignment, in every state. -/
def Obligations.NopLeavesEveryRegister : Prop := ∀ s : State, exec .nop s = .next s

/-- 42 R75: the assignments of an accepted SEND. -/
def Obligations.SendIsAccepted : Prop :=
  ∀ (w : BitVec 6) (s : State), s.fsm = .idle → w.toNat ≤ s.cfg.wmax →
    exec (.send w) s = .next { s with
      frame := frameEncode s.txdata w.toNat
      width := w
      bitidx := 0
      phase := 1
      tcnt := BitVec.ofNat 32 (tickCycles s.cfg - 1)
      lineState := .drivenLow
      fsm := .tx }

/-- 43 R81: the assignments of an accepted RECEIVE; tcnt and phase are not assigned. -/
def Obligations.ReceiveIsAccepted : Prop :=
  ∀ (w : BitVec 6) (s : State), s.fsm = .idle → w.toNat ≤ s.cfg.wmax →
    exec (.receive w) s = .next { s with
      width := w
      bitidx := 0
      rxsh := 0
      wdog := 0
      lineState := .idleHigh
      fsm := .rxWaitHigh }

/-- 40 R62: SET_OUT L drives L, from every line state. -/
def Obligations.SetOutDrivesTheLevel : Prop :=
  ∀ (l : Bool) (s : State), s.fsm = .idle →
    exec (.setOut l) s = .next { s with lineState := if l then .drivenHigh else .drivenLow }

/-- 40 R63: SET_IN P releases the line, pulled High if P = 1, from every line state. -/
def Obligations.SetInReleasesTheLine : Prop :=
  ∀ (p : Bool) (s : State), s.fsm = .idle →
    exec (.setIn p) s = .next { s with lineState := if p then .idleHigh else .floatingInput }

/-- 40 R64: WRITE L drives L in output mode, and is rejected with cause 5 in input mode. -/
def Obligations.WriteDrivesOnlyInOutputMode : Prop :=
  ∀ (l : Bool) (s : State), s.fsm = .idle →
    ((s.lineState = .drivenLow ∨ s.lineState = .drivenHigh) →
      exec (.write l) s = .next { s with lineState := if l then .drivenHigh else .drivenLow }) ∧
    ((s.lineState = .idleHigh ∨ s.lineState = .floatingInput) →
      exec (.write l) s = .next { s with cerr := true, ecause := 5 })

/-- 40 R65: READ samples line_s into RXDATA in input mode, and is rejected with cause 6 in output mode. -/
def Obligations.ReadSamplesOnlyInInputMode : Prop :=
  ∀ s : State, s.fsm = .idle →
    ((s.lineState = .idleHigh ∨ s.lineState = .floatingInput) →
      exec .read s = .next { s with rxdata := if s.sync2 then 1 else 0 }) ∧
    ((s.lineState = .drivenLow ∨ s.lineState = .drivenHigh) →
      exec .read s = .next { s with cerr := true, ecause := 6 })

/-- 44 R97: ABORT while busy goes to IDLE and IDLE_HIGH and sets ABORTED; while idle it assigns nothing. -/
def Obligations.AbortReleasesARunningCommand : Prop :=
  ∀ s : State,
    (s.fsm ≠ .idle → exec .abort s = .next { s with fsm := .idle, lineState := .idleHigh, abrt := true }) ∧
    (s.fsm = .idle → exec .abort s = .next s)

/-- 44 R93: while busy every command but NOP and ABORT is rejected with cause 3 and has no other effect. -/
def Obligations.BusyRejectsEveryOtherCommand : Prop :=
  ∀ (i : Instr) (s : State), s.fsm ≠ .idle → i ≠ .nop → i ≠ .abort →
    exec i s = .next { s with cerr := true, ecause := 3 }

/-- 44 R92: a SEND or RECEIVE with W > WMAX in an idle block is rejected with cause 4 and has no other effect. -/
def Obligations.TooWideTransfersAreRejected : Prop :=
  ∀ (w : BitVec 6) (s : State), s.fsm = .idle → s.cfg.wmax < w.toNat →
    exec (.send w) s = .next { s with cerr := true, ecause := 4 } ∧
    exec (.receive w) s = .next { s with cerr := true, ecause := 4 }

/-- 44 R92: a bus write to CMD makes CmdWrite's assignments; CmdWrite, check by check and arm by arm. -/
def Obligations.CmdWriteChecksInOrder : Prop :=
  (∀ (s : State) (i : PortIn), i.busOp = 2 → i.busAddr.extractLsb' 2 3 = 0 →
    busUpdate s i = cmdWrite s i.busWdata) ∧
  (∀ (s : State) (v : Word), decode v = .bad .reservedOpcode → cmdWrite s v = .next { s with cerr := true, ecause := 1 }) ∧
  (∀ (s : State) (v : Word), decode v = .bad .fieldNotZero → cmdWrite s v = .next { s with cerr := true, ecause := 2 }) ∧
  (∀ (s : State) (v : Word), decode v = .cmd .nop → cmdWrite s v = .next s) ∧
  (∀ (s : State) (v : Word), decode v = .cmd .abort →
    cmdWrite s v = if s.fsm = .idle then .next s
      else .next { s with fsm := .idle, lineState := .idleHigh, abrt := true }) ∧
  (∀ (s : State) (v : Word) (i : Instr), decode v = .cmd i → i ≠ .nop → i ≠ .abort → s.fsm ≠ .idle →
    cmdWrite s v = .next { s with cerr := true, ecause := 3 }) ∧
  (∀ (s : State) (v : Word) (i : Instr), decode v = .cmd i → s.fsm = .idle → i.wellFormed s.cfg = false →
    cmdWrite s v = .next { s with cerr := true, ecause := 4 }) ∧
  (∀ (s : State) (v : Word) (w : BitVec 6), decode v = .cmd (.send w) → s.fsm = .idle → w.toNat ≤ s.cfg.wmax →
    cmdWrite s v = .next { s with
      frame := frameEncode s.txdata w.toNat, width := w, bitidx := 0, phase := 1
      tcnt := BitVec.ofNat 32 (tickCycles s.cfg - 1), lineState := .drivenLow, fsm := .tx }) ∧
  (∀ (s : State) (v : Word) (w : BitVec 6), decode v = .cmd (.receive w) → s.fsm = .idle → w.toNat ≤ s.cfg.wmax →
    cmdWrite s v = .next { s with
      width := w, bitidx := 0, rxsh := 0, wdog := 0, lineState := .idleHigh, fsm := .rxWaitHigh }) ∧
  (∀ (s : State) (v : Word) (l : Bool), decode v = .cmd (.setOut l) → s.fsm = .idle →
    cmdWrite s v = .next { s with lineState := if l then .drivenHigh else .drivenLow }) ∧
  (∀ (s : State) (v : Word) (p : Bool), decode v = .cmd (.setIn p) → s.fsm = .idle →
    cmdWrite s v = .next { s with lineState := if p then .idleHigh else .floatingInput }) ∧
  (∀ (s : State) (v : Word) (l : Bool), decode v = .cmd (.write l) → s.fsm = .idle →
    cmdWrite s v = if s.lineState = .drivenLow ∨ s.lineState = .drivenHigh
      then .next { s with lineState := if l then .drivenHigh else .drivenLow }
      else .next { s with cerr := true, ecause := 5 }) ∧
  (∀ (s : State) (v : Word), decode v = .cmd .read → s.fsm = .idle →
    cmdWrite s v = if s.lineState = .idleHigh ∨ s.lineState = .floatingInput
      then .next { s with rxdata := if s.sync2 then 1 else 0 }
      else .next { s with cerr := true, ecause := 6 })

/-! ### The register window -/

/-- 10 R24: the fields of STATUS, bit by bit, and its value after reset. -/
def Obligations.StatusWordHasItsFields : Prop :=
  (∀ s : State,
    (statusWord s).extractLsb' 0 1 = BitVec.ofBool (decide (s.fsm ≠ .idle)) ∧
    (statusWord s).extractLsb' 1 2 =
      (match s.lineState with | .idleHigh => 0 | .drivenLow => 1 | .drivenHigh => 2 | .floatingInput => 3) ∧
    (statusWord s).extractLsb' 3 1 = BitVec.ofBool s.sync2 ∧
    (statusWord s).extractLsb' 4 1 = BitVec.ofBool s.done ∧
    (statusWord s).extractLsb' 5 1 = BitVec.ofBool s.ferr ∧
    (statusWord s).extractLsb' 6 1 = BitVec.ofBool s.tout ∧
    (statusWord s).extractLsb' 7 1 = BitVec.ofBool s.cerr ∧
    (statusWord s).extractLsb' 8 1 = BitVec.ofBool s.abrt ∧
    (statusWord s).extractLsb' 9 3 =
      (match s.fsm with | .idle => 0 | .tx => 1 | .rxWaitHigh => 2 | .rxDelay => 3 | .rxWaitLow => 4) ∧
    (statusWord s).extractLsb' 12 6 = s.bitidx ∧
    (statusWord s).extractLsb' 18 3 = s.ecause ∧
    (statusWord s).extractLsb' 21 11 = 0) ∧
  (∀ p : Params, statusWord (State.resetWith p) = 0x00000008)

/-- 10 R26: the fields of INFO, its default value, and the constants TICK, SAMPLE and TIMEOUT read. -/
def Obligations.ConstantRegistersReadTheParameters : Prop :=
  (∀ s : State, s.cfg.legal = true →
    ((readValue s 0x1C).extractLsb' 0 6).toNat = s.cfg.wmax ∧
    (readValue s 0x1C).extractLsb' 6 2 = 0 ∧
    ((readValue s 0x1C).extractLsb' 8 2).toNat = s.cfg.p2Ticks ∧
    (readValue s 0x1C).extractLsb' 10 2 = 0 ∧
    ((readValue s 0x1C).extractLsb' 12 4).toNat = 2 ∧
    (readValue s 0x1C).extractLsb' 16 16 = 0 ∧
    (readValue s 0x10).toNat = 1000000 / (s.cfg.frequencyHz * 3) ∧
    (readValue s 0x14).toNat = 3 * (1000000 / (s.cfg.frequencyHz * 3)) / 2 ∧
    (readValue s 0x18).toNat = s.cfg.timeoutCycles) ∧
  (∀ s : State, s.cfg.wmax = 32 → s.cfg.p2Ticks = 1 → readValue s 0x1C = 0x00002120)

/-- 20 R34: what each register reads as, bus_rdata in a READ, and that a READ changes no register: the cycle is the
cycle of a NONE. -/
def Obligations.ReadsReturnTheRegisterAndChangeNothing : Prop :=
  (∀ (s : State) (a : BusAddr),
    (a.extractLsb' 2 3 = 0 → readValue s a = 0x00000000) ∧
    (a.extractLsb' 2 3 = 1 → readValue s a = statusWord s) ∧
    (a.extractLsb' 2 3 = 2 → readValue s a = s.txdata) ∧
    (a.extractLsb' 2 3 = 3 → readValue s a = s.rxdata) ∧
    (a.extractLsb' 2 3 = 4 → readValue s a = BitVec.ofNat 32 (tickCycles s.cfg)) ∧
    (a.extractLsb' 2 3 = 5 → readValue s a = BitVec.ofNat 32 (sampleDelay s.cfg)) ∧
    (a.extractLsb' 2 3 = 6 → readValue s a = BitVec.ofNat 32 s.cfg.timeoutCycles) ∧
    (a.extractLsb' 2 3 = 7 → readValue s a = infoWord s.cfg)) ∧
  (∀ (s : State) (i : PortIn), i.busOp = 1 → (outputs s i).busRdata = readValue s i.busAddr) ∧
  (∀ (s : State) (i : PortIn), clock s { i with busOp := 1 } = clock s { i with busOp := 0 })

/-- 20 R33, R38: the four addresses of a word reach the same register. -/
def Obligations.AddressesOfAWordReachOneRegister : Prop :=
  ∀ (s : State) (v : Word) (k j : Nat), k < 8 → j < 4 →
    registerIndex (BitVec.ofNat 5 (4 * k + j)) = BitVec.ofNat 3 k ∧
    readValue s (BitVec.ofNat 5 (4 * k + j)) = readValue s (BitVec.ofNat 5 (4 * k)) ∧
    registerWrite s (BitVec.ofNat 5 (4 * k + j)) v = registerWrite s (BitVec.ofNat 5 (4 * k)) v

/-- 20 R35: the assignments of a bus operation; writes to the read-only registers are ignored. -/
def Obligations.BusWritesReachTheirRegister : Prop :=
  ∀ (s : State) (i : PortIn),
    (i.busOp = 2 → i.busAddr.extractLsb' 2 3 = 0 → busUpdate s i = cmdWrite s i.busWdata) ∧
    (i.busOp = 2 → i.busAddr.extractLsb' 2 3 = 1 → busUpdate s i = .next (clearFlags i.busWdata s)) ∧
    (i.busOp = 2 → i.busAddr.extractLsb' 2 3 = 2 → busUpdate s i = .next { s with txdata := i.busWdata }) ∧
    (i.busOp = 2 → 3 ≤ (i.busAddr.extractLsb' 2 3).toNat → busUpdate s i = .next s) ∧
    (i.busOp ≠ 2 → busUpdate s i = .next s)

/-- 10 R25: a write to STATUS clears the flags whose bits are 1, ERR_CAUSE with bit 7, ignores the other bits, and does
not clear a flag the sequencer sets in the same cycle. `q` is the sequencer's result on cleared flags: its flags are
those it sets. Everything else is as in the same cycle without the write. -/
def Obligations.StatusWriteClearsWhatTheSequencerDoesNotSet : Prop :=
  ∀ (s u q : State) (i : PortIn), i.rst = false → writesRegister i 1 →
    clock s { i with busOp := 0 } = .next u →
    q = seqUpdate s { s with done := false, ferr := false, tout := false } →
    clock s i = .next { u with
      done := q.done || (s.done && !i.busWdata.getLsbD 4)
      ferr := q.ferr || (s.ferr && !i.busWdata.getLsbD 5)
      tout := q.tout || (s.tout && !i.busWdata.getLsbD 6)
      cerr := s.cerr && !i.busWdata.getLsbD 7
      abrt := s.abrt && !i.busWdata.getLsbD 8
      ecause := if i.busWdata.getLsbD 7 then 0 else s.ecause }

/-- 44 R94: a rejected command changes CMD_ERR and ERR_CAUSE alone, the sequencer goes on as in a cycle without it, and
CMD_ERR stays until STATUS bit 7 is written 1. -/
def Obligations.RejectionSetsOnlyTheErrorRecord : Prop :=
  (∀ (s u : State) (i : PortIn) (k : BitVec 3), i.rst = false → writesRegister i 0 →
    cmdWrite s i.busWdata = .next (raiseCmdErr k s) → writesAbort i = false →
    clock s { i with busOp := 0 } = .next u →
    clock s i = .next { u with cerr := true, ecause := k }) ∧
  (∀ (s t : State) (i : PortIn), clock s i = .next t → s.cerr = true → i.rst = false →
    ¬ (writesRegister i 1 ∧ i.busWdata.getLsbD 7 = true) → t.cerr = true)

/-- 10 R27: each sticky flag, and ERR_CAUSE, is set only by its events and cleared only by its write-one-to-clear or
reset; a register read sets none; and no command reads one: what a command does beside the flags does not depend on
them. -/
def Obligations.FlagsChangeOnlyByTheirEvents : Prop :=
  (∀ (s t : State) (i : PortIn), clock s i = .next t →
    (s.done = false → t.done = true →
      abortWins s i = false ∧ s.bitidx.toNat + 1 = s.width.toNat + 2 ∧ t.fsm = .idle ∧ t.lineState = .idleHigh ∧
        ((s.fsm = .tx ∧ s.tcnt = 0 ∧ s.phase ≠ 1 ∧ ¬ (s.phase = 2 ∧ s.cfg.p2Ticks = 1)) ∨
          (s.fsm = .rxWaitLow ∧ s.sync2 = true))) ∧
    (s.ferr = false → t.ferr = true →
      abortWins s i = false ∧ s.fsm = .rxWaitLow ∧ s.sync2 = true ∧ s.bitidx.toNat + 1 = s.width.toNat + 2 ∧
        (s.rxsh.getLsbD 0 = true ∨ s.rxsh.getLsbD (s.width.toNat + 1) = false)) ∧
    (s.tout = false → t.tout = true →
      abortWins s i = false ∧ s.cfg.timeoutCycles ≠ 0 ∧ s.wdog.toNat = s.cfg.timeoutCycles - 1 ∧
        ((s.fsm = .rxWaitHigh ∧ s.sync2 = true) ∨ (s.fsm = .rxWaitLow ∧ s.sync2 = false))) ∧
    (s.cerr = false → t.cerr = true →
      writesRegister i 0 ∧ ∃ k, t.ecause = k ∧ cmdWrite s i.busWdata = .next (raiseCmdErr k s)) ∧
    (s.abrt = false → t.abrt = true → s.fsm ≠ .idle ∧ writesCommand i .abort) ∧
    (s.done = true → t.done = false → i.rst = true ∨ (writesRegister i 1 ∧ i.busWdata.getLsbD 4 = true)) ∧
    (s.ferr = true → t.ferr = false → i.rst = true ∨ (writesRegister i 1 ∧ i.busWdata.getLsbD 5 = true)) ∧
    (s.tout = true → t.tout = false → i.rst = true ∨ (writesRegister i 1 ∧ i.busWdata.getLsbD 6 = true)) ∧
    (s.cerr = true → t.cerr = false → i.rst = true ∨ (writesRegister i 1 ∧ i.busWdata.getLsbD 7 = true)) ∧
    (s.abrt = true → t.abrt = false → i.rst = true ∨ (writesRegister i 1 ∧ i.busWdata.getLsbD 8 = true)) ∧
    (t.ecause ≠ s.ecause → i.rst = true ∨ (writesRegister i 1 ∧ i.busWdata.getLsbD 7 = true) ∨
      (writesRegister i 0 ∧ cmdWrite s i.busWdata = .next (raiseCmdErr t.ecause s)))) ∧
  (∀ (s : State) (i : PortIn), clock s { i with busOp := 1 } = clock s { i with busOp := 0 }) ∧
  (∀ (c : Instr) (s : State) (d f o e a : Bool) (k : BitVec 3),
    mapNext (fun t => { t with done := false, ferr := false, tout := false, cerr := false, abrt := false, ecause := 0 })
        (exec c { s with done := d, ferr := f, tout := o, cerr := e, abrt := a, ecause := k }) =
      mapNext (fun t => { t with done := false, ferr := false, tout := false, cerr := false, abrt := false, ecause := 0 })
        (exec c s))

/-- 20 R43: RXDATA, TXDATA and frame are written only by the events the rules name. -/
def Obligations.DataRegistersChangeOnlyByTheirEvents : Prop :=
  ∀ (s t : State) (i : PortIn), clock s i = .next t →
    (t.rxdata ≠ s.rxdata → i.rst = true ∨
      (abortWins s i = false ∧ s.fsm = .rxWaitLow ∧ s.sync2 = true ∧ s.bitidx.toNat + 1 = s.width.toNat + 2 ∧
        t.rxdata = frameDecode s.rxsh s.width.toNat) ∨
      (s.fsm = .idle ∧ writesCommand i .read ∧ inputMode s.lineState = true ∧
        t.rxdata = if s.sync2 then 1 else 0)) ∧
    (t.txdata ≠ s.txdata → i.rst = true ∨ (writesRegister i 2 ∧ t.txdata = i.busWdata)) ∧
    (t.frame ≠ s.frame → i.rst = true ∨
      (∃ w : BitVec 6, s.fsm = .idle ∧ w.toNat ≤ s.cfg.wmax ∧ writesCommand i (.send w) ∧
        t.frame = frameEncode s.txdata w.toNat))

/-- 10 R28, R29: no read shows the hidden registers. -/
def Obligations.HiddenRegistersAreUnreadable : Prop :=
  ∀ (s : State) (i : PortIn) (y1 : Bool) (w : BitVec 6) (ph : BitVec 2) (tc wd : BitVec 32) (f r : Image),
    outputs { s with sync1 := y1, width := w, phase := ph, tcnt := tc, wdog := wd, frame := f, rxsh := r } i
      = outputs s i

/-- 10 R31: the outputs of a cycle. -/
def Obligations.OutputsFollowTheState : Prop :=
  ∀ (s : State) (i : PortIn) (l : Bool),
    (outputs s i).pads = pad s.lineState ∧
    (i.busOp = 1 → (outputs s i).busRdata = readValue s i.busAddr) ∧
    (i.busOp ≠ 1 → (outputs s i).busRdata = 0) ∧
    outputs s { i with lineI := l } = outputs s i

/-! ### The line driver -/

/-- 40 R57: the pad outputs of each line state. -/
def Obligations.PadOutputsOfTheLineStates : Prop :=
  pad .idleHigh = { oe := false, o := true, pu := true } ∧
  pad .drivenLow = { oe := true, o := false, pu := false } ∧
  pad .drivenHigh = { oe := true, o := true, pu := false } ∧
  pad .floatingInput = { oe := false, o := true, pu := false }

/-- 40 R59: the complete transition relation of line_state, what line_state is during a RECEIVE and a SEND, and that a
line-driver command does not change it while the block is busy. -/
def Obligations.LineStateTransitionsAreTheListedOnes : Prop :=
  (∀ (s t : State) (i : PortIn), clock s i = .next t → t.lineState ≠ s.lineState →
    (i.rst = true ∧ t.lineState = .idleHigh) ∨
    (∃ l, s.fsm = .idle ∧ writesCommand i (.setOut l) ∧ t.lineState = drv l) ∨
    (∃ p, s.fsm = .idle ∧ writesCommand i (.setIn p) ∧ t.lineState = if p then .idleHigh else .floatingInput) ∨
    (∃ l, s.fsm = .idle ∧ outputMode s.lineState = true ∧ writesCommand i (.write l) ∧ t.lineState = drv l) ∨
    (∃ w : BitVec 6, s.fsm = .idle ∧ w.toNat ≤ s.cfg.wmax ∧ writesCommand i (.send w) ∧ t.lineState = .drivenLow) ∨
    (s.fsm = .tx ∧ t.fsm = .tx ∧ s.tcnt = 0 ∧
      (t.lineState = .drivenLow ∨ t.lineState = drv (s.frame.getLsbD s.bitidx.toNat) ∨ t.lineState = .drivenHigh)) ∨
    (s.fsm = .tx ∧ s.tcnt = 0 ∧ s.bitidx.toNat + 1 = s.width.toNat + 2 ∧ t.fsm = .idle ∧ t.done = true ∧
      t.lineState = .idleHigh) ∨
    (∃ w : BitVec 6, s.fsm = .idle ∧ w.toNat ≤ s.cfg.wmax ∧ writesCommand i (.receive w) ∧
      t.lineState = .idleHigh) ∨
    ((s.fsm = .rxWaitHigh ∨ s.fsm = .rxWaitLow) ∧ t.fsm = .idle ∧ (t.done = true ∨ t.tout = true) ∧
      t.lineState = .idleHigh) ∨
    (s.fsm ≠ .idle ∧ writesCommand i .abort ∧ t.lineState = .idleHigh)) ∧
  (∀ s : State, Inv s → (s.fsm = .rxWaitHigh ∨ s.fsm = .rxDelay ∨ s.fsm = .rxWaitLow) → s.lineState = .idleHigh) ∧
  (∀ s : State, Inv s → s.fsm = .tx → s.lineState ≠ .idleHigh ∧ s.lineState ≠ .floatingInput) ∧
  (∀ (s t u : State) (i : PortIn) (c : Instr), s.fsm ≠ .idle → i.rst = false → writesCommand i c →
    ((∃ l, c = .setOut l) ∨ (∃ p, c = .setIn p) ∨ (∃ l, c = .write l) ∨ c = .read) →
    clock s i = .next t → clock s { i with busOp := 0 } = .next u → t.lineState = u.lineState)

/-- 40 R60: the synchroniser delays the wire by two cycles in every state, reads 1 in the two cycles after a reset, and
nothing else reads line_i. -/
def Obligations.SynchroniserDelaysTheWireTwoCycles : Prop :=
  (∀ (s t u : State) (i j : PortIn), i.rst = false → j.rst = false → clock s i = .next t → clock t j = .next u →
    t.sync1 = i.lineI ∧ t.sync2 = s.sync1 ∧ u.sync2 = i.lineI) ∧
  (∀ (s t u : State) (i j : PortIn), i.rst = true → j.rst = false → clock s i = .next t → clock t j = .next u →
    t.sync2 = true ∧ u.sync2 = true) ∧
  (∀ (s t : State) (i : PortIn) (l : Bool), i.rst = false → clock s i = .next t →
    clock s { i with lineI := l } = .next { t with sync1 := l })

/-- 60 R109, 10 R20: an idle block without a bus WRITE changes only its synchroniser. -/
def Obligations.IdleBlockChangesOnlyItsSynchroniser : Prop :=
  ∀ (s : State) (i : PortIn), s.cfg.legal = true → s.fsm = .idle → quiet i = true →
    clock s i = .next { s with sync1 := i.lineI, sync2 := s.sync1 }

/-- 10 R20: only an accepted SEND or RECEIVE makes an idle block busy. -/
def Obligations.OnlyTransfersMakeTheBlockBusy : Prop :=
  (∀ s : State, busy s = true ↔ s.fsm ≠ .idle) ∧
  (∀ (s t : State) (i : PortIn), clock s i = .next t → busy s = false → busy t = true →
    ∃ w : BitVec 6, w.toNat ≤ s.cfg.wmax ∧
      ((writesCommand i (.send w) ∧ t.fsm = .tx) ∨ (writesCommand i (.receive w) ∧ t.fsm = .rxWaitHigh)))

/-! ### The frame codec -/

/-- 41 R67: Encode bit by bit, and as one number. -/
def Obligations.EncodeIsTheFrameImage : Prop :=
  (∀ (v : Word) (w i : Nat), w ≤ 32 →
    (frameEncode v w).getLsbD i = (decide (1 ≤ i ∧ i ≤ w) && v.getLsbD (i - 1) || decide (i = w + 1))) ∧
  (∀ (v : Word) (w : Nat), w ≤ 32 → (frameEncode v w).toNat = 2 ^ (w + 1) + 2 * (v.toNat % 2 ^ w))

/-- 41 R70: Decode bit by bit and as one number; it does not look at the framing bits. -/
def Obligations.DecodeIsThePayload : Prop :=
  (∀ (b : Image) (w i : Nat), w ≤ 32 → (frameDecode b w).getLsbD i = (decide (i < w) && b.getLsbD (i + 1))) ∧
  (∀ (b : Image) (w : Nat), w ≤ 32 → (frameDecode b w).toNat = b.toNat / 2 % 2 ^ w) ∧
  (∀ (b : Image) (w : Nat) (x y : Bool), w ≤ 32 →
    frameDecode (setBit (setBit b 0 x) (w + 1) y) w = frameDecode b w) ∧
  (∀ b : Image, frameDecode b 0 = 0)

/-- 41 R72, R69: round trip, frame length, framing bits, truncation, and the width-0 frame. -/
def Obligations.FrameCodecLaws : Prop :=
  (∀ (v : Word) (w : Nat), w ≤ 32 → v.toNat < 2 ^ w → frameDecode (frameEncode v w) w = v) ∧
  (∀ (v : Word) (w i : Nat), w ≤ 32 → w + 1 < i → (frameEncode v w).getLsbD i = false) ∧
  (∀ (v : Word) (w : Nat), w ≤ 32 →
    (frameEncode v w).getLsbD 0 = false ∧ (frameEncode v w).getLsbD (w + 1) = true) ∧
  (∀ (v : Word) (w : Nat), w ≤ 32 → frameEncode v w = frameEncode (BitVec.ofNat 32 (v.toNat % 2 ^ w)) w) ∧
  (∀ v : Word, frameEncode v 0 = 2) ∧
  (∀ b : Image, frameDecode b 0 = 0)

/-! ### The sequencer: one cycle. `b` is what the cycle's bus operation left of the registers. -/

/-- 42 R76: TxStep, its five cases, in every cycle without reset and ABORT. -/
def Obligations.TransmitterTakesItsStep : Prop :=
  ∀ (s b : State) (i : PortIn), s.cfg.legal = true → calm i = true → s.fsm = .tx → busUpdate s i = .next b →
    (s.tcnt ≠ 0 →
      clock s i = .next { b with tcnt := s.tcnt - 1, sync1 := i.lineI, sync2 := s.sync1 }) ∧
    (s.tcnt = 0 → s.phase = 1 →
      clock s i = .next { b with
        phase := 2, lineState := (if s.frame.getLsbD s.bitidx.toNat then .drivenHigh else .drivenLow)
        tcnt := BitVec.ofNat 32 (s.cfg.p2Ticks * tickCycles s.cfg - 1), sync1 := i.lineI, sync2 := s.sync1 }) ∧
    (s.tcnt = 0 → s.phase = 2 → s.cfg.p2Ticks = 1 →
      clock s i = .next { b with
        phase := 3, lineState := .drivenHigh, tcnt := BitVec.ofNat 32 (tickCycles s.cfg - 1)
        sync1 := i.lineI, sync2 := s.sync1 }) ∧
    (s.tcnt = 0 → s.phase ≠ 1 → ¬ (s.phase = 2 ∧ s.cfg.p2Ticks = 1) → s.bitidx.toNat + 1 = s.width.toNat + 2 →
      clock s i = .next { b with
        bitidx := s.bitidx + 1, fsm := .idle, lineState := .idleHigh, done := true
        sync1 := i.lineI, sync2 := s.sync1 }) ∧
    (s.tcnt = 0 → s.phase ≠ 1 → ¬ (s.phase = 2 ∧ s.cfg.p2Ticks = 1) → s.bitidx.toNat + 1 ≠ s.width.toNat + 2 →
      clock s i = .next { b with
        bitidx := s.bitidx + 1, phase := 1, lineState := .drivenLow, tcnt := BitVec.ofNat 32 (tickCycles s.cfg - 1)
        sync1 := i.lineI, sync2 := s.sync1 })

/-- 43 R82: the cycle in RX_WAIT_HIGH: falling edge, timeout, or one more cycle. -/
def Obligations.ReceiverWaitsForTheFallingEdge : Prop :=
  ∀ (s b : State) (i : PortIn), s.cfg.legal = true → calm i = true → s.fsm = .rxWaitHigh → busUpdate s i = .next b →
    (s.sync2 = false →
      clock s i = .next { b with
        fsm := .rxDelay, tcnt := BitVec.ofNat 32 (sampleDelay s.cfg - 1), sync1 := i.lineI, sync2 := s.sync1 }) ∧
    (s.sync2 = true → s.cfg.timeoutCycles ≠ 0 → s.wdog.toNat = s.cfg.timeoutCycles - 1 →
      clock s i = .next { b with
        fsm := .idle, lineState := .idleHigh, tout := true, sync1 := i.lineI, sync2 := s.sync1 }) ∧
    (s.sync2 = true → ¬ (s.cfg.timeoutCycles ≠ 0 ∧ s.wdog.toNat = s.cfg.timeoutCycles - 1) →
      clock s i = .next { b with wdog := s.wdog + 1, sync1 := i.lineI, sync2 := s.sync1 })

/-- 43 R83: the cycle in RX_DELAY, and that the sample is taken SAMPLE_DELAY cycles after the detection. -/
def Obligations.ReceiverSamplesAfterTheDelay : Prop :=
  (∀ (s b : State) (i : PortIn), Inv s → calm i = true → s.fsm = .rxDelay → busUpdate s i = .next b →
    (s.tcnt ≠ 0 → clock s i = .next { b with tcnt := s.tcnt - 1, sync1 := i.lineI, sync2 := s.sync1 }) ∧
    (s.tcnt = 0 → ∃ x : Image,
      (∀ j, x.getLsbD j = if j = s.bitidx.toNat then s.sync2 else s.rxsh.getLsbD j) ∧
      clock s i = .next { b with
        rxsh := x, fsm := .rxWaitLow, wdog := 0, sync1 := i.lineI, sync2 := s.sync1 })) ∧
  (∀ (s : State) (ins rest : List PortIn), Inv s → s.fsm = .rxWaitHigh → s.sync2 = false →
    s.inputs = ins ++ rest → ins.length = sampleDelay s.cfg + 1 → (∀ i ∈ ins, calm i = true) →
    ∃ d t, run (sampleDelay s.cfg) s = .next d ∧ d.fsm = .rxDelay ∧ d.tcnt = 0 ∧
      run (sampleDelay s.cfg + 1) s = .next t ∧ t.fsm = .rxWaitLow ∧
      t.rxsh.getLsbD s.bitidx.toNat = d.sync2)

/-- 43 R84, R85: the cycle in RX_WAIT_LOW: bit done, RxComplete after the last bit, timeout, or one more cycle. -/
def Obligations.ReceiverEndsTheBit : Prop :=
  ∀ (s b : State) (i : PortIn), s.cfg.legal = true → calm i = true → s.fsm = .rxWaitLow → busUpdate s i = .next b →
    (s.sync2 = true → s.bitidx.toNat + 1 = s.width.toNat + 2 →
      clock s i = .next { b with
        bitidx := s.bitidx + 1, wdog := 0, rxdata := frameDecode s.rxsh s.width.toNat, done := true
        ferr := (if s.rxsh.getLsbD 0 = true ∨ s.rxsh.getLsbD (s.width.toNat + 1) = false then true else b.ferr)
        fsm := .idle, lineState := .idleHigh, sync1 := i.lineI, sync2 := s.sync1 }) ∧
    (s.sync2 = true → s.bitidx.toNat + 1 ≠ s.width.toNat + 2 →
      clock s i = .next { b with
        bitidx := s.bitidx + 1, wdog := 0, fsm := .rxWaitHigh, sync1 := i.lineI, sync2 := s.sync1 }) ∧
    (s.sync2 = false → s.cfg.timeoutCycles ≠ 0 → s.wdog.toNat = s.cfg.timeoutCycles - 1 →
      clock s i = .next { b with
        fsm := .idle, lineState := .idleHigh, tout := true, sync1 := i.lineI, sync2 := s.sync1 }) ∧
    (s.sync2 = false → ¬ (s.cfg.timeoutCycles ≠ 0 ∧ s.wdog.toNat = s.cfg.timeoutCycles - 1) →
      clock s i = .next { b with wdog := s.wdog + 1, sync1 := i.lineI, sync2 := s.sync1 })

/-- 10 R30 step 5, 44 R97, 60 R100: an ABORT while busy discards the sequencer's assignments of its cycle, completion
and timeout among them; the synchroniser goes on. -/
def Obligations.AbortDiscardsTheSequencer : Prop :=
  ∀ (s : State) (i : PortIn), s.cfg.legal = true → s.fsm ≠ .idle → i.rst = false → writesCommand i .abort →
    clock s i = .next { s with
      fsm := .idle, lineState := .idleHigh, abrt := true, sync1 := i.lineI, sync2 := s.sync1 }

/-! ### The sequencer: whole transfers -/

/-- 42 R77, R78: the waveform of a SEND, cycle by cycle, and its end. `during` are the input ports of the cycles
c + 1 to c + 3·T·(W + 2), `after` those of cycles without a bus WRITE that follow. -/
def Obligations.SendDrivesTheWaveform : Prop :=
  ∀ (s : State) (w : BitVec 6) (i : PortIn) (during after rest : List PortIn),
    s.cfg.legal = true → s.fsm = .idle → w.toNat ≤ s.cfg.wmax → i.rst = false → writesCommand i (.send w) →
    s.inputs = i :: (during ++ after ++ rest) → during.length = 3 * tickCycles s.cfg * (w.toNat + 2) →
    (∀ j ∈ during, calm j = true) → (∀ j ∈ after, quiet j = true) →
    (∀ k, k < during.length → ∃ t, run (k + 1) s = .next t ∧ t.fsm = .tx ∧
      t.lineState = drv (waveLevel s.cfg (frameEncode s.txdata w.toNat) w k) ∧
      (pad t.lineState).oe = true ∧
      (pad t.lineState).o = waveLevel s.cfg (frameEncode s.txdata w.toNat) w k) ∧
    (∀ k, k ≤ after.length → ∃ t, run (during.length + 1 + k) s = .next t ∧ t.fsm = .idle ∧
      t.lineState = .idleHigh ∧ t.done = true ∧ t.bitidx.toNat = w.toNat + 2)

/-- 43 R88: correct reception. Index k of the wire is cycle c − 1 + k, so index 0 is what sync1 holds at acceptance and
d = t_0 − (c − 1) is the index of the start bit's first Low cycle. -/
def Obligations.AlignedReceiveDeliversThePayload : Prop :=
  ∀ (s : State) (w : BitVec 6) (v : Word) (d : Nat) (i : PortIn) (more rest : List PortIn),
    s.cfg.legal = true → s.fsm = .idle → w.toNat ≤ s.cfg.wmax → writesCommand i (.receive w) →
    s.inputs = i :: (more ++ rest) →
    (i :: more).length = d + 3 * tickCycles s.cfg * (w.toNat + 1) + sampleDelay s.cfg + 3 →
    (∀ j ∈ i :: more, calm j = true) →
    s.sync1 = wireWithFrame s.cfg (frameEncode v w.toNat) w d 0 →
    (i :: more).map PortIn.lineI =
      (List.range (i :: more).length).map (fun k => wireWithFrame s.cfg (frameEncode v w.toNat) w d (k + 1)) →
    (s.cfg.timeoutCycles = 0 ∨ (3 * tickCycles s.cfg ≤ s.cfg.timeoutCycles ∧ d < s.cfg.timeoutCycles)) →
    (∀ k, 1 ≤ k → k < (i :: more).length → ∃ t, run k s = .next t ∧ t.fsm ≠ .idle) ∧
    (∃ t, run (i :: more).length s = .next t ∧ t.fsm = .idle ∧ t.rxdata.toNat = v.toNat % 2 ^ w.toNat ∧
      t.done = true ∧ t.bitidx.toNat = w.toNat + 2 ∧ (t.ferr = true → s.ferr = true) ∧
      ((∀ j ∈ i :: more, ¬ writesRegister j 1) → t.ferr = s.ferr))

/-- 43 R90: without a timeout, a line that keeps its level keeps the receiver waiting, however long. -/
def Obligations.ReceiverWaitsWithoutBound : Prop :=
  ∀ (s : State) (ins rest : List PortIn), s.cfg.legal = true → s.cfg.timeoutCycles = 0 → s.inputs = ins ++ rest →
    (∀ j ∈ ins, calm j = true) →
    (s.fsm = .rxWaitHigh → s.sync1 = true → s.sync2 = true → (∀ j ∈ ins, j.lineI = true) →
      ∃ t, run ins.length s = .next t ∧ t.fsm = .rxWaitHigh) ∧
    (s.fsm = .rxWaitLow → s.sync1 = false → s.sync2 = false → (∀ j ∈ ins, j.lineI = false) →
      ∃ t, run ins.length s = .next t ∧ t.fsm = .rxWaitLow)

/-- 43 R86: a wait state that has just begun (wdog = 0) and does not see the level it waits for ends after exactly
TIMEOUT_CYCLES cycles, whatever the host does short of reset and ABORT, with TIMEOUT set and RXDATA, DONE, FRAME_ERR and
BITIDX unwritten (a host may clear DONE and FRAME_ERR by a write to STATUS, 10 R25; without one they stay); with
TIMEOUT_CYCLES = 0 no cycle sets TIMEOUT. -/
def Obligations.ReceiveTimesOutAfterTimeoutCycles : Prop :=
  (∀ (s : State) (l : Bool) (ins rest : List PortIn), s.cfg.legal = true → s.cfg.timeoutCycles ≠ 0 → s.wdog = 0 →
    (s.fsm = .rxWaitHigh ∧ l = true ∨ s.fsm = .rxWaitLow ∧ l = false) → s.sync1 = l → s.sync2 = l →
    s.inputs = ins ++ rest → ins.length = s.cfg.timeoutCycles → (∀ j ∈ ins, calm j = true ∧ j.lineI = l) →
    (∀ k, k < ins.length → ∃ t, run k s = .next t ∧ t.fsm = s.fsm) ∧
    (∃ t, run ins.length s = .next t ∧ t.fsm = .idle ∧ t.lineState = .idleHigh ∧ t.tout = true ∧
      t.rxdata = s.rxdata ∧ t.bitidx = s.bitidx ∧ (t.done = true → s.done = true) ∧ (t.ferr = true → s.ferr = true) ∧
      ((∀ j ∈ ins, ¬ writesRegister j 1) → t.done = s.done ∧ t.ferr = s.ferr))) ∧
  (∀ (s t : State) (i : PortIn), s.cfg.timeoutCycles = 0 → clock s i = .next t → t.tout = true → s.tout = true)

/-- 43 R91: a RECEIVE that neither times out nor is stopped is busy for at least (W + 2)·(SAMPLE_DELAY + 2) cycles, on
any input. -/
def Obligations.ReceiveLastsAtLeastItsDelays : Prop :=
  ∀ (s : State) (w : BitVec 6) (i : PortIn) (more rest : List PortIn),
    s.cfg.legal = true → s.cfg.timeoutCycles = 0 → s.fsm = .idle → w.toNat ≤ s.cfg.wmax → i.rst = false →
    writesCommand i (.receive w) → s.inputs = i :: (more ++ rest) → (∀ j ∈ more, calm j = true) →
    ∀ k, k ≤ more.length → k < (w.toNat + 2) * (sampleDelay s.cfg + 2) →
      ∃ t, run (k + 1) s = .next t ∧ t.fsm ≠ .idle

/-! ### Reset, configuration, invariant, step -/

/-- 70 R110: reset, from every state and whatever the other inputs, and its consequences. -/
def Obligations.ResetReplacesEveryRegister : Prop :=
  ∀ (s : State) (i : PortIn), s.cfg.legal = true → i.rst = true →
    ∃ t, clock s i = .next t ∧
      t.fsm = .idle ∧ t.lineState = .idleHigh ∧ t.sync1 = true ∧ t.sync2 = true ∧ t.width = 0 ∧ t.bitidx = 0 ∧
      t.phase = 0 ∧ t.tcnt = 0 ∧ t.wdog = 0 ∧ t.rxsh = 0 ∧ t.txdata = 0 ∧ t.rxdata = 0 ∧ t.done = false ∧
      t.ferr = false ∧ t.tout = false ∧ t.cerr = false ∧ t.abrt = false ∧ t.ecause = 0 ∧ t.frame = 0 ∧
      t.cfg = s.cfg ∧ pad t.lineState = { oe := false, o := true, pu := true } ∧
      statusWord t = 0x00000008 ∧ readValue t 0x1C = infoWord s.cfg ∧
      (outputs s i).pads = pad s.lineState

/-- 00 R7: the ranges of the parameters; a step of an instance outside them is refused, and a step of one inside them
always answers with a next state that has the same parameters. -/
def Obligations.ParametersAreCheckedAndConstant : Prop :=
  (∀ p : Params, p.legal = true ↔
    (1 ≤ p.frequencyHz ∧ p.frequencyHz ≤ 166666) ∧ (1 ≤ p.wmax ∧ p.wmax ≤ 32) ∧
    (p.p2Ticks = 1 ∨ p.p2Ticks = 2) ∧ p.timeoutCycles ≤ 2 ^ 32 - 1) ∧
  (∀ s : State, s.cfg.legal = false → step s = .refused .illegalConfiguration) ∧
  (∀ s : State, s.cfg.legal = true → ∃ t, step s = .next t ∧ t.cfg = s.cfg) ∧
  (∀ f : Nat, ({ frequencyHz := f } : Params) =
    { frequencyHz := f, wmax := 32, p2Ticks := 1, timeoutCycles := 0 })

/-- 00 R8, 42 R80: the derived constants, their ranges, and that the sample point lies in phase 2. -/
def Obligations.DerivedConstantsAreInRange : Prop :=
  ∀ p : Params, p.legal = true →
    tickCycles p = 1000000 / (p.frequencyHz * 3) ∧ 2 ≤ tickCycles p ∧ tickCycles p ≤ 333333 ∧
    sampleDelay p = 3 * tickCycles p / 2 ∧ 3 ≤ sampleDelay p ∧ sampleDelay p ≤ 499999 ∧
    bitCycles p = 3 * tickCycles p ∧ syncStages = 2 ∧
    tickCycles p ≤ sampleDelay p ∧ sampleDelay p ≤ 2 * tickCycles p - 1 ∧
    sampleDelay p ≤ (1 + p.p2Ticks) * tickCycles p - 1

/-- The invariant `Inv` holds right after reset, for every legal configuration (70 R110). -/
def Obligations.ResetSatisfiesTheInvariant : Prop :=
  (∀ p : Params, p.legal = true → Inv (State.resetWith p)) ∧ Inv State.reset

/-- Every step keeps `Inv`, from every state that has it: 10 R22 and 41 R73 (the counters never wrap), 40 R59 (the line
during a transfer), 10 R28 (the registers' widths), 44 R95 (the cause codes). -/
def Obligations.EveryStepKeepsTheInvariant : Prop :=
  ∀ s t : State, Inv s → step s = .next t → Inv t

/-- 10 R30, 20 R35: when the coming cycle writes a word to CMD that decodes to c, the step is exec of c, then the
sequencer's assignments (unless c is an ABORT of a running command) and the synchroniser's; the cycle's ports are
used up. -/
def Obligations.StepRunsTheDecodedCommand : Prop :=
  ∀ (s b : State) (i : PortIn) (more : List PortIn) (c : Instr),
    s.cfg.legal = true → s.inputs = i :: more → i.rst = false → i.busOp = 2 → i.busAddr.extractLsb' 2 3 = 0 →
    decode i.busWdata = .cmd c → exec c s = .next b →
    step s = .next (passCycle { (if c = .abort ∧ s.fsm ≠ .idle then b else seqUpdate s b) with
      sync1 := i.lineI, sync2 := s.sync1 })

/-! ### The composition and the host's notation -/

/-- 20 R47: the wire of two blocks, what both ends read, and the contention record. -/
def Obligations.WireOfTwoEndpoints : Prop :=
  (∀ a b : PadOut,
    (a.oe = true → b.oe = true → a.o = b.o → wireState a b = .level a.o) ∧
    (a.oe = true → b.oe = true → a.o ≠ b.o → wireState a b = .contention) ∧
    (a.oe = true → b.oe = false → wireState a b = .level a.o) ∧
    (a.oe = false → b.oe = true → wireState a b = .level b.o) ∧
    (a.oe = false → b.oe = false → (a.pu = true ∨ b.pu = true) → wireState a b = .level true) ∧
    (a.oe = false → b.oe = false → a.pu = false → b.pu = false → wireState a b = .floating)) ∧
  (∀ (p q : Pair) (ia ib : PortIn), ia.rst = false → ib.rst = false → pairClock p ia ib = .next q →
    q.a.sync1 = q.b.sync1 ∧
    (∀ l, wireState (pad p.a.lineState) (pad p.b.lineState) = .level l → q.a.sync1 = l)) ∧
  (∀ (p q : Pair) (ia ib : PortIn), pairClock p ia ib = .next q →
    (wireState (pad p.a.lineState) (pad p.b.lineState) = .contention → q.fault = some .contention) ∧
    (p.fault = some .contention → q.fault = some .contention) ∧
    (p.fault = none → q.fault ≠ none → wireState (pad p.a.lineState) (pad p.b.lineState) = .contention))

/-- 30 R55: what a host does in a cycle for each pseudo-instruction. -/
def Obligations.PseudoInstructionsExpand : Prop :=
  ∀ (n : Nat) (s : State) (rest : List TimedLine) (v : Word) (w : BitVec 6),
    hostCycle n s ({ at? := none, line := .sync } :: rest) = (.write 0x00 0x00000001, rest) ∧
    hostCycle n s ({ at? := none, line := .syncWait } :: rest) = (.write 0x00 0x00000002, rest) ∧
    hostCycle n s ({ at? := none, line := .tx v w } :: rest) =
      (.write 0x08 v, { at? := none, line := .command (.send w) } :: rest) ∧
    (s.fsm ≠ .idle → hostCycle n s ({ at? := none, line := .poll } :: rest) =
      (.read 0x04, { at? := none, line := .poll } :: rest)) ∧
    (s.fsm = .idle → hostCycle n s ({ at? := none, line := .poll } :: rest) = (.read 0x04, rest)) ∧
    hostCycle n s ({ at? := none, line := .clr v } :: rest) = (.write 0x04 v, rest)

/-- 60 R106: a block shares only the wire with the other block: what the other block holds, and what its host and reset
do, reach a block's next state through the other block's pad alone. -/
def Obligations.EndpointsShareOnlyTheWire : Prop :=
  ∀ (p q r : Pair) (other : State) (ia ib j : PortIn), pairClock p ia ib = .next q →
    (pad other.lineState = pad p.b.lineState → pairClock { p with b := other } ia j = .next r → r.a = q.a) ∧
    (pad other.lineState = pad p.a.lineState → pairClock { p with a := other } j ib = .next r → r.b = q.b)
end

