-- ==== Sys2Proof/Laws/Codec.lean ====
section
/-!
SUPPORT. The bits of the image operations and of the codec's loops (41 R67, R70).
-/

namespace Sys2Proof.Machine

theorem setBit_getLsbD (b : Image) (i j : Nat) (v : Bool) (hi : i < 34) :
    (setBit b i v).getLsbD j = if j = i then v else b.getLsbD j := by
  unfold setBit
  by_cases hj : j < 34
  · cases v <;> by_cases h : j = i <;> simp_all [Ne.symm]
  · have hne : j ≠ i := by omega
    simp [hne, BitVec.getLsbD_of_ge _ _ (by omega : 34 ≤ j)]

theorem keepLow_getLsbD (n : Nat) (b : Image) (j : Nat) :
    (keepLow n b).getLsbD j = (decide (j < n) && b.getLsbD j) := by
  unfold keepLow
  by_cases hj : j < 34
  · rw [BitVec.getLsbD_and, BitVec.getLsbD_ofNat, Nat.testBit_two_pow_sub_one]
    simp [hj, Bool.and_comm]
  · simp [BitVec.getLsbD_of_ge _ _ (by omega : 34 ≤ j)]

/-- The payload loop of Encode puts bit k − 1 of v at bit k of the image (41 R67). -/
theorem payloadImage_getLsbD (v : Word) (n j : Nat) (hn : n ≤ 33) :
    (payloadImage v n).getLsbD j = (decide (1 ≤ j ∧ j ≤ n) && v.getLsbD (j - 1)) := by
  induction n with
  | zero =>
    have : decide (1 ≤ j ∧ j ≤ 0) = false := by simp only [decide_eq_false_iff_not]; omega
    rw [this]; simp [payloadImage]
  | succ n ih =>
    rw [payloadImage, setBit_getLsbD _ _ _ _ (by omega), ih (by omega)]
    by_cases h : j = n + 1
    · subst h; simp
    · have : (1 ≤ j ∧ j ≤ n + 1) ↔ (1 ≤ j ∧ j ≤ n) := by omega
      simp [h, this]

/-- The loop of Decode puts bit j + 1 of the image at bit j of the word (41 R70). -/
theorem frameDecode_getLsbD (b : Image) (n j : Nat) (hn : n ≤ 32) :
    (frameDecode b n).getLsbD j = (decide (j < n) && b.getLsbD (j + 1)) := by
  induction n with
  | zero => simp [frameDecode]
  | succ n ih =>
    rw [frameDecode]
    have hlt : n < 32 := by omega
    by_cases h : j = n
    · subst h
      split_ifs with hb
      · rw [BitVec.getLsbD_or, ih (by omega)]; simp [hb, hlt]
      · rw [ih (by omega)]; simp [hb]
    · have hj : j < n + 1 ↔ j < n := by omega
      split_ifs with hb
      · rw [BitVec.getLsbD_or, ih (by omega)]; simp [BitVec.getLsbD_twoPow, hj, Ne.symm h]
      · rw [ih (by omega)]; simp [hj]

end Sys2Proof.Machine
end

