-- ==== Sys2Proof/Laws/State.lean ====
section
/-!
SUPPORT. The fields of a state after each named update: one lemma per field per update.
-/

namespace Sys2Proof.Machine

@[simp] theorem raiseCmdErr_cfg (k : BitVec 3) (s : State) : (raiseCmdErr k s).cfg = s.cfg := rfl
@[simp] theorem raiseCmdErr_fsm (k : BitVec 3) (s : State) : (raiseCmdErr k s).fsm = s.fsm := rfl
@[simp] theorem raiseCmdErr_lineState (k : BitVec 3) (s : State) : (raiseCmdErr k s).lineState = s.lineState := rfl
@[simp] theorem raiseCmdErr_sync1 (k : BitVec 3) (s : State) : (raiseCmdErr k s).sync1 = s.sync1 := rfl
@[simp] theorem raiseCmdErr_sync2 (k : BitVec 3) (s : State) : (raiseCmdErr k s).sync2 = s.sync2 := rfl
@[simp] theorem raiseCmdErr_width (k : BitVec 3) (s : State) : (raiseCmdErr k s).width = s.width := rfl
@[simp] theorem raiseCmdErr_bitidx (k : BitVec 3) (s : State) : (raiseCmdErr k s).bitidx = s.bitidx := rfl
@[simp] theorem raiseCmdErr_phase (k : BitVec 3) (s : State) : (raiseCmdErr k s).phase = s.phase := rfl
@[simp] theorem raiseCmdErr_tcnt (k : BitVec 3) (s : State) : (raiseCmdErr k s).tcnt = s.tcnt := rfl
@[simp] theorem raiseCmdErr_wdog (k : BitVec 3) (s : State) : (raiseCmdErr k s).wdog = s.wdog := rfl
@[simp] theorem raiseCmdErr_frame (k : BitVec 3) (s : State) : (raiseCmdErr k s).frame = s.frame := rfl
@[simp] theorem raiseCmdErr_rxsh (k : BitVec 3) (s : State) : (raiseCmdErr k s).rxsh = s.rxsh := rfl
@[simp] theorem raiseCmdErr_txdata (k : BitVec 3) (s : State) : (raiseCmdErr k s).txdata = s.txdata := rfl
@[simp] theorem raiseCmdErr_rxdata (k : BitVec 3) (s : State) : (raiseCmdErr k s).rxdata = s.rxdata := rfl
@[simp] theorem raiseCmdErr_done (k : BitVec 3) (s : State) : (raiseCmdErr k s).done = s.done := rfl
@[simp] theorem raiseCmdErr_ferr (k : BitVec 3) (s : State) : (raiseCmdErr k s).ferr = s.ferr := rfl
@[simp] theorem raiseCmdErr_tout (k : BitVec 3) (s : State) : (raiseCmdErr k s).tout = s.tout := rfl
@[simp] theorem raiseCmdErr_cerr (k : BitVec 3) (s : State) : (raiseCmdErr k s).cerr = true := rfl
@[simp] theorem raiseCmdErr_abrt (k : BitVec 3) (s : State) : (raiseCmdErr k s).abrt = s.abrt := rfl
@[simp] theorem raiseCmdErr_ecause (k : BitVec 3) (s : State) : (raiseCmdErr k s).ecause = k := rfl
@[simp] theorem raiseCmdErr_inputs (k : BitVec 3) (s : State) : (raiseCmdErr k s).inputs = s.inputs := rfl
@[simp] theorem raiseCmdErr_cycle (k : BitVec 3) (s : State) : (raiseCmdErr k s).cycle = s.cycle := rfl

@[simp] theorem clearFlags_cfg (v : Word) (s : State) : (clearFlags v s).cfg = s.cfg := rfl
@[simp] theorem clearFlags_fsm (v : Word) (s : State) : (clearFlags v s).fsm = s.fsm := rfl
@[simp] theorem clearFlags_lineState (v : Word) (s : State) : (clearFlags v s).lineState = s.lineState := rfl
@[simp] theorem clearFlags_sync1 (v : Word) (s : State) : (clearFlags v s).sync1 = s.sync1 := rfl
@[simp] theorem clearFlags_sync2 (v : Word) (s : State) : (clearFlags v s).sync2 = s.sync2 := rfl
@[simp] theorem clearFlags_width (v : Word) (s : State) : (clearFlags v s).width = s.width := rfl
@[simp] theorem clearFlags_bitidx (v : Word) (s : State) : (clearFlags v s).bitidx = s.bitidx := rfl
@[simp] theorem clearFlags_phase (v : Word) (s : State) : (clearFlags v s).phase = s.phase := rfl
@[simp] theorem clearFlags_tcnt (v : Word) (s : State) : (clearFlags v s).tcnt = s.tcnt := rfl
@[simp] theorem clearFlags_wdog (v : Word) (s : State) : (clearFlags v s).wdog = s.wdog := rfl
@[simp] theorem clearFlags_frame (v : Word) (s : State) : (clearFlags v s).frame = s.frame := rfl
@[simp] theorem clearFlags_rxsh (v : Word) (s : State) : (clearFlags v s).rxsh = s.rxsh := rfl
@[simp] theorem clearFlags_txdata (v : Word) (s : State) : (clearFlags v s).txdata = s.txdata := rfl
@[simp] theorem clearFlags_rxdata (v : Word) (s : State) : (clearFlags v s).rxdata = s.rxdata := rfl
@[simp] theorem clearFlags_done (v : Word) (s : State) : (clearFlags v s).done = (s.done && !v.getLsbD 4) := rfl
@[simp] theorem clearFlags_ferr (v : Word) (s : State) : (clearFlags v s).ferr = (s.ferr && !v.getLsbD 5) := rfl
@[simp] theorem clearFlags_tout (v : Word) (s : State) : (clearFlags v s).tout = (s.tout && !v.getLsbD 6) := rfl
@[simp] theorem clearFlags_cerr (v : Word) (s : State) : (clearFlags v s).cerr = (s.cerr && !v.getLsbD 7) := rfl
@[simp] theorem clearFlags_abrt (v : Word) (s : State) : (clearFlags v s).abrt = (s.abrt && !v.getLsbD 8) := rfl
@[simp] theorem clearFlags_ecause (v : Word) (s : State) : (clearFlags v s).ecause = (if v.getLsbD 7 then 0 else s.ecause) := rfl
@[simp] theorem clearFlags_inputs (v : Word) (s : State) : (clearFlags v s).inputs = s.inputs := rfl
@[simp] theorem clearFlags_cycle (v : Word) (s : State) : (clearFlags v s).cycle = s.cycle := rfl

@[simp] theorem setLine_cfg (l : LineState) (s : State) : (setLine l s).cfg = s.cfg := rfl
@[simp] theorem setLine_fsm (l : LineState) (s : State) : (setLine l s).fsm = s.fsm := rfl
@[simp] theorem setLine_lineState (l : LineState) (s : State) : (setLine l s).lineState = l := rfl
@[simp] theorem setLine_sync1 (l : LineState) (s : State) : (setLine l s).sync1 = s.sync1 := rfl
@[simp] theorem setLine_sync2 (l : LineState) (s : State) : (setLine l s).sync2 = s.sync2 := rfl
@[simp] theorem setLine_width (l : LineState) (s : State) : (setLine l s).width = s.width := rfl
@[simp] theorem setLine_bitidx (l : LineState) (s : State) : (setLine l s).bitidx = s.bitidx := rfl
@[simp] theorem setLine_phase (l : LineState) (s : State) : (setLine l s).phase = s.phase := rfl
@[simp] theorem setLine_tcnt (l : LineState) (s : State) : (setLine l s).tcnt = s.tcnt := rfl
@[simp] theorem setLine_wdog (l : LineState) (s : State) : (setLine l s).wdog = s.wdog := rfl
@[simp] theorem setLine_frame (l : LineState) (s : State) : (setLine l s).frame = s.frame := rfl
@[simp] theorem setLine_rxsh (l : LineState) (s : State) : (setLine l s).rxsh = s.rxsh := rfl
@[simp] theorem setLine_txdata (l : LineState) (s : State) : (setLine l s).txdata = s.txdata := rfl
@[simp] theorem setLine_rxdata (l : LineState) (s : State) : (setLine l s).rxdata = s.rxdata := rfl
@[simp] theorem setLine_done (l : LineState) (s : State) : (setLine l s).done = s.done := rfl
@[simp] theorem setLine_ferr (l : LineState) (s : State) : (setLine l s).ferr = s.ferr := rfl
@[simp] theorem setLine_tout (l : LineState) (s : State) : (setLine l s).tout = s.tout := rfl
@[simp] theorem setLine_cerr (l : LineState) (s : State) : (setLine l s).cerr = s.cerr := rfl
@[simp] theorem setLine_abrt (l : LineState) (s : State) : (setLine l s).abrt = s.abrt := rfl
@[simp] theorem setLine_ecause (l : LineState) (s : State) : (setLine l s).ecause = s.ecause := rfl
@[simp] theorem setLine_inputs (l : LineState) (s : State) : (setLine l s).inputs = s.inputs := rfl
@[simp] theorem setLine_cycle (l : LineState) (s : State) : (setLine l s).cycle = s.cycle := rfl

@[simp] theorem setTxdata_cfg (v : Word) (s : State) : (setTxdata v s).cfg = s.cfg := rfl
@[simp] theorem setTxdata_fsm (v : Word) (s : State) : (setTxdata v s).fsm = s.fsm := rfl
@[simp] theorem setTxdata_lineState (v : Word) (s : State) : (setTxdata v s).lineState = s.lineState := rfl
@[simp] theorem setTxdata_sync1 (v : Word) (s : State) : (setTxdata v s).sync1 = s.sync1 := rfl
@[simp] theorem setTxdata_sync2 (v : Word) (s : State) : (setTxdata v s).sync2 = s.sync2 := rfl
@[simp] theorem setTxdata_width (v : Word) (s : State) : (setTxdata v s).width = s.width := rfl
@[simp] theorem setTxdata_bitidx (v : Word) (s : State) : (setTxdata v s).bitidx = s.bitidx := rfl
@[simp] theorem setTxdata_phase (v : Word) (s : State) : (setTxdata v s).phase = s.phase := rfl
@[simp] theorem setTxdata_tcnt (v : Word) (s : State) : (setTxdata v s).tcnt = s.tcnt := rfl
@[simp] theorem setTxdata_wdog (v : Word) (s : State) : (setTxdata v s).wdog = s.wdog := rfl
@[simp] theorem setTxdata_frame (v : Word) (s : State) : (setTxdata v s).frame = s.frame := rfl
@[simp] theorem setTxdata_rxsh (v : Word) (s : State) : (setTxdata v s).rxsh = s.rxsh := rfl
@[simp] theorem setTxdata_txdata (v : Word) (s : State) : (setTxdata v s).txdata = v := rfl
@[simp] theorem setTxdata_rxdata (v : Word) (s : State) : (setTxdata v s).rxdata = s.rxdata := rfl
@[simp] theorem setTxdata_done (v : Word) (s : State) : (setTxdata v s).done = s.done := rfl
@[simp] theorem setTxdata_ferr (v : Word) (s : State) : (setTxdata v s).ferr = s.ferr := rfl
@[simp] theorem setTxdata_tout (v : Word) (s : State) : (setTxdata v s).tout = s.tout := rfl
@[simp] theorem setTxdata_cerr (v : Word) (s : State) : (setTxdata v s).cerr = s.cerr := rfl
@[simp] theorem setTxdata_abrt (v : Word) (s : State) : (setTxdata v s).abrt = s.abrt := rfl
@[simp] theorem setTxdata_ecause (v : Word) (s : State) : (setTxdata v s).ecause = s.ecause := rfl
@[simp] theorem setTxdata_inputs (v : Word) (s : State) : (setTxdata v s).inputs = s.inputs := rfl
@[simp] theorem setTxdata_cycle (v : Word) (s : State) : (setTxdata v s).cycle = s.cycle := rfl

@[simp] theorem setRxdata_cfg (v : Word) (s : State) : (setRxdata v s).cfg = s.cfg := rfl
@[simp] theorem setRxdata_fsm (v : Word) (s : State) : (setRxdata v s).fsm = s.fsm := rfl
@[simp] theorem setRxdata_lineState (v : Word) (s : State) : (setRxdata v s).lineState = s.lineState := rfl
@[simp] theorem setRxdata_sync1 (v : Word) (s : State) : (setRxdata v s).sync1 = s.sync1 := rfl
@[simp] theorem setRxdata_sync2 (v : Word) (s : State) : (setRxdata v s).sync2 = s.sync2 := rfl
@[simp] theorem setRxdata_width (v : Word) (s : State) : (setRxdata v s).width = s.width := rfl
@[simp] theorem setRxdata_bitidx (v : Word) (s : State) : (setRxdata v s).bitidx = s.bitidx := rfl
@[simp] theorem setRxdata_phase (v : Word) (s : State) : (setRxdata v s).phase = s.phase := rfl
@[simp] theorem setRxdata_tcnt (v : Word) (s : State) : (setRxdata v s).tcnt = s.tcnt := rfl
@[simp] theorem setRxdata_wdog (v : Word) (s : State) : (setRxdata v s).wdog = s.wdog := rfl
@[simp] theorem setRxdata_frame (v : Word) (s : State) : (setRxdata v s).frame = s.frame := rfl
@[simp] theorem setRxdata_rxsh (v : Word) (s : State) : (setRxdata v s).rxsh = s.rxsh := rfl
@[simp] theorem setRxdata_txdata (v : Word) (s : State) : (setRxdata v s).txdata = s.txdata := rfl
@[simp] theorem setRxdata_rxdata (v : Word) (s : State) : (setRxdata v s).rxdata = v := rfl
@[simp] theorem setRxdata_done (v : Word) (s : State) : (setRxdata v s).done = s.done := rfl
@[simp] theorem setRxdata_ferr (v : Word) (s : State) : (setRxdata v s).ferr = s.ferr := rfl
@[simp] theorem setRxdata_tout (v : Word) (s : State) : (setRxdata v s).tout = s.tout := rfl
@[simp] theorem setRxdata_cerr (v : Word) (s : State) : (setRxdata v s).cerr = s.cerr := rfl
@[simp] theorem setRxdata_abrt (v : Word) (s : State) : (setRxdata v s).abrt = s.abrt := rfl
@[simp] theorem setRxdata_ecause (v : Word) (s : State) : (setRxdata v s).ecause = s.ecause := rfl
@[simp] theorem setRxdata_inputs (v : Word) (s : State) : (setRxdata v s).inputs = s.inputs := rfl
@[simp] theorem setRxdata_cycle (v : Word) (s : State) : (setRxdata v s).cycle = s.cycle := rfl

@[simp] theorem release_cfg (s : State) : (release s).cfg = s.cfg := rfl
@[simp] theorem release_fsm (s : State) : (release s).fsm = .idle := rfl
@[simp] theorem release_lineState (s : State) : (release s).lineState = .idleHigh := rfl
@[simp] theorem release_sync1 (s : State) : (release s).sync1 = s.sync1 := rfl
@[simp] theorem release_sync2 (s : State) : (release s).sync2 = s.sync2 := rfl
@[simp] theorem release_width (s : State) : (release s).width = s.width := rfl
@[simp] theorem release_bitidx (s : State) : (release s).bitidx = s.bitidx := rfl
@[simp] theorem release_phase (s : State) : (release s).phase = s.phase := rfl
@[simp] theorem release_tcnt (s : State) : (release s).tcnt = s.tcnt := rfl
@[simp] theorem release_wdog (s : State) : (release s).wdog = s.wdog := rfl
@[simp] theorem release_frame (s : State) : (release s).frame = s.frame := rfl
@[simp] theorem release_rxsh (s : State) : (release s).rxsh = s.rxsh := rfl
@[simp] theorem release_txdata (s : State) : (release s).txdata = s.txdata := rfl
@[simp] theorem release_rxdata (s : State) : (release s).rxdata = s.rxdata := rfl
@[simp] theorem release_done (s : State) : (release s).done = s.done := rfl
@[simp] theorem release_ferr (s : State) : (release s).ferr = s.ferr := rfl
@[simp] theorem release_tout (s : State) : (release s).tout = s.tout := rfl
@[simp] theorem release_cerr (s : State) : (release s).cerr = s.cerr := rfl
@[simp] theorem release_abrt (s : State) : (release s).abrt = s.abrt := rfl
@[simp] theorem release_ecause (s : State) : (release s).ecause = s.ecause := rfl
@[simp] theorem release_inputs (s : State) : (release s).inputs = s.inputs := rfl
@[simp] theorem release_cycle (s : State) : (release s).cycle = s.cycle := rfl

@[simp] theorem shiftSync_cfg (a b : Bool) (s : State) : (shiftSync a b s).cfg = s.cfg := rfl
@[simp] theorem shiftSync_fsm (a b : Bool) (s : State) : (shiftSync a b s).fsm = s.fsm := rfl
@[simp] theorem shiftSync_lineState (a b : Bool) (s : State) : (shiftSync a b s).lineState = s.lineState := rfl
@[simp] theorem shiftSync_sync1 (a b : Bool) (s : State) : (shiftSync a b s).sync1 = b := rfl
@[simp] theorem shiftSync_sync2 (a b : Bool) (s : State) : (shiftSync a b s).sync2 = a := rfl
@[simp] theorem shiftSync_width (a b : Bool) (s : State) : (shiftSync a b s).width = s.width := rfl
@[simp] theorem shiftSync_bitidx (a b : Bool) (s : State) : (shiftSync a b s).bitidx = s.bitidx := rfl
@[simp] theorem shiftSync_phase (a b : Bool) (s : State) : (shiftSync a b s).phase = s.phase := rfl
@[simp] theorem shiftSync_tcnt (a b : Bool) (s : State) : (shiftSync a b s).tcnt = s.tcnt := rfl
@[simp] theorem shiftSync_wdog (a b : Bool) (s : State) : (shiftSync a b s).wdog = s.wdog := rfl
@[simp] theorem shiftSync_frame (a b : Bool) (s : State) : (shiftSync a b s).frame = s.frame := rfl
@[simp] theorem shiftSync_rxsh (a b : Bool) (s : State) : (shiftSync a b s).rxsh = s.rxsh := rfl
@[simp] theorem shiftSync_txdata (a b : Bool) (s : State) : (shiftSync a b s).txdata = s.txdata := rfl
@[simp] theorem shiftSync_rxdata (a b : Bool) (s : State) : (shiftSync a b s).rxdata = s.rxdata := rfl
@[simp] theorem shiftSync_done (a b : Bool) (s : State) : (shiftSync a b s).done = s.done := rfl
@[simp] theorem shiftSync_ferr (a b : Bool) (s : State) : (shiftSync a b s).ferr = s.ferr := rfl
@[simp] theorem shiftSync_tout (a b : Bool) (s : State) : (shiftSync a b s).tout = s.tout := rfl
@[simp] theorem shiftSync_cerr (a b : Bool) (s : State) : (shiftSync a b s).cerr = s.cerr := rfl
@[simp] theorem shiftSync_abrt (a b : Bool) (s : State) : (shiftSync a b s).abrt = s.abrt := rfl
@[simp] theorem shiftSync_ecause (a b : Bool) (s : State) : (shiftSync a b s).ecause = s.ecause := rfl
@[simp] theorem shiftSync_inputs (a b : Bool) (s : State) : (shiftSync a b s).inputs = s.inputs := rfl
@[simp] theorem shiftSync_cycle (a b : Bool) (s : State) : (shiftSync a b s).cycle = s.cycle := rfl

@[simp] theorem passCycle_cfg (s : State) : (passCycle s).cfg = s.cfg := rfl
@[simp] theorem passCycle_fsm (s : State) : (passCycle s).fsm = s.fsm := rfl
@[simp] theorem passCycle_lineState (s : State) : (passCycle s).lineState = s.lineState := rfl
@[simp] theorem passCycle_sync1 (s : State) : (passCycle s).sync1 = s.sync1 := rfl
@[simp] theorem passCycle_sync2 (s : State) : (passCycle s).sync2 = s.sync2 := rfl
@[simp] theorem passCycle_width (s : State) : (passCycle s).width = s.width := rfl
@[simp] theorem passCycle_bitidx (s : State) : (passCycle s).bitidx = s.bitidx := rfl
@[simp] theorem passCycle_phase (s : State) : (passCycle s).phase = s.phase := rfl
@[simp] theorem passCycle_tcnt (s : State) : (passCycle s).tcnt = s.tcnt := rfl
@[simp] theorem passCycle_wdog (s : State) : (passCycle s).wdog = s.wdog := rfl
@[simp] theorem passCycle_frame (s : State) : (passCycle s).frame = s.frame := rfl
@[simp] theorem passCycle_rxsh (s : State) : (passCycle s).rxsh = s.rxsh := rfl
@[simp] theorem passCycle_txdata (s : State) : (passCycle s).txdata = s.txdata := rfl
@[simp] theorem passCycle_rxdata (s : State) : (passCycle s).rxdata = s.rxdata := rfl
@[simp] theorem passCycle_done (s : State) : (passCycle s).done = s.done := rfl
@[simp] theorem passCycle_ferr (s : State) : (passCycle s).ferr = s.ferr := rfl
@[simp] theorem passCycle_tout (s : State) : (passCycle s).tout = s.tout := rfl
@[simp] theorem passCycle_cerr (s : State) : (passCycle s).cerr = s.cerr := rfl
@[simp] theorem passCycle_abrt (s : State) : (passCycle s).abrt = s.abrt := rfl
@[simp] theorem passCycle_ecause (s : State) : (passCycle s).ecause = s.ecause := rfl
@[simp] theorem passCycle_inputs (s : State) : (passCycle s).inputs = s.inputs.tail := rfl
@[simp] theorem passCycle_cycle (s : State) : (passCycle s).cycle = s.cycle + 1 := rfl

@[simp] theorem startLowPhase_cfg (p : Params) (s : State) : (startLowPhase p s).cfg = s.cfg := rfl
@[simp] theorem startLowPhase_fsm (p : Params) (s : State) : (startLowPhase p s).fsm = s.fsm := rfl
@[simp] theorem startLowPhase_lineState (p : Params) (s : State) : (startLowPhase p s).lineState = .drivenLow := rfl
@[simp] theorem startLowPhase_sync1 (p : Params) (s : State) : (startLowPhase p s).sync1 = s.sync1 := rfl
@[simp] theorem startLowPhase_sync2 (p : Params) (s : State) : (startLowPhase p s).sync2 = s.sync2 := rfl
@[simp] theorem startLowPhase_width (p : Params) (s : State) : (startLowPhase p s).width = s.width := rfl
@[simp] theorem startLowPhase_bitidx (p : Params) (s : State) : (startLowPhase p s).bitidx = s.bitidx := rfl
@[simp] theorem startLowPhase_phase (p : Params) (s : State) : (startLowPhase p s).phase = 1 := rfl
@[simp] theorem startLowPhase_tcnt (p : Params) (s : State) : (startLowPhase p s).tcnt = countFor (tickCycles p) := rfl
@[simp] theorem startLowPhase_wdog (p : Params) (s : State) : (startLowPhase p s).wdog = s.wdog := rfl
@[simp] theorem startLowPhase_frame (p : Params) (s : State) : (startLowPhase p s).frame = s.frame := rfl
@[simp] theorem startLowPhase_rxsh (p : Params) (s : State) : (startLowPhase p s).rxsh = s.rxsh := rfl
@[simp] theorem startLowPhase_txdata (p : Params) (s : State) : (startLowPhase p s).txdata = s.txdata := rfl
@[simp] theorem startLowPhase_rxdata (p : Params) (s : State) : (startLowPhase p s).rxdata = s.rxdata := rfl
@[simp] theorem startLowPhase_done (p : Params) (s : State) : (startLowPhase p s).done = s.done := rfl
@[simp] theorem startLowPhase_ferr (p : Params) (s : State) : (startLowPhase p s).ferr = s.ferr := rfl
@[simp] theorem startLowPhase_tout (p : Params) (s : State) : (startLowPhase p s).tout = s.tout := rfl
@[simp] theorem startLowPhase_cerr (p : Params) (s : State) : (startLowPhase p s).cerr = s.cerr := rfl
@[simp] theorem startLowPhase_abrt (p : Params) (s : State) : (startLowPhase p s).abrt = s.abrt := rfl
@[simp] theorem startLowPhase_ecause (p : Params) (s : State) : (startLowPhase p s).ecause = s.ecause := rfl
@[simp] theorem startLowPhase_inputs (p : Params) (s : State) : (startLowPhase p s).inputs = s.inputs := rfl
@[simp] theorem startLowPhase_cycle (p : Params) (s : State) : (startLowPhase p s).cycle = s.cycle := rfl

@[simp] theorem txAccept_cfg (w : BitVec 6) (s : State) : (txAccept w s).cfg = s.cfg := rfl
@[simp] theorem txAccept_fsm (w : BitVec 6) (s : State) : (txAccept w s).fsm = .tx := rfl
@[simp] theorem txAccept_lineState (w : BitVec 6) (s : State) : (txAccept w s).lineState = .drivenLow := rfl
@[simp] theorem txAccept_sync1 (w : BitVec 6) (s : State) : (txAccept w s).sync1 = s.sync1 := rfl
@[simp] theorem txAccept_sync2 (w : BitVec 6) (s : State) : (txAccept w s).sync2 = s.sync2 := rfl
@[simp] theorem txAccept_width (w : BitVec 6) (s : State) : (txAccept w s).width = w := rfl
@[simp] theorem txAccept_bitidx (w : BitVec 6) (s : State) : (txAccept w s).bitidx = 0 := rfl
@[simp] theorem txAccept_phase (w : BitVec 6) (s : State) : (txAccept w s).phase = 1 := rfl
@[simp] theorem txAccept_tcnt (w : BitVec 6) (s : State) : (txAccept w s).tcnt = countFor (tickCycles s.cfg) := rfl
@[simp] theorem txAccept_wdog (w : BitVec 6) (s : State) : (txAccept w s).wdog = s.wdog := rfl
@[simp] theorem txAccept_frame (w : BitVec 6) (s : State) : (txAccept w s).frame = frameEncode (sendValue s) w.toNat := rfl
@[simp] theorem txAccept_rxsh (w : BitVec 6) (s : State) : (txAccept w s).rxsh = s.rxsh := rfl
@[simp] theorem txAccept_txdata (w : BitVec 6) (s : State) : (txAccept w s).txdata = s.txdata := rfl
@[simp] theorem txAccept_rxdata (w : BitVec 6) (s : State) : (txAccept w s).rxdata = s.rxdata := rfl
@[simp] theorem txAccept_done (w : BitVec 6) (s : State) : (txAccept w s).done = s.done := rfl
@[simp] theorem txAccept_ferr (w : BitVec 6) (s : State) : (txAccept w s).ferr = s.ferr := rfl
@[simp] theorem txAccept_tout (w : BitVec 6) (s : State) : (txAccept w s).tout = s.tout := rfl
@[simp] theorem txAccept_cerr (w : BitVec 6) (s : State) : (txAccept w s).cerr = s.cerr := rfl
@[simp] theorem txAccept_abrt (w : BitVec 6) (s : State) : (txAccept w s).abrt = s.abrt := rfl
@[simp] theorem txAccept_ecause (w : BitVec 6) (s : State) : (txAccept w s).ecause = s.ecause := rfl
@[simp] theorem txAccept_inputs (w : BitVec 6) (s : State) : (txAccept w s).inputs = s.inputs := rfl
@[simp] theorem txAccept_cycle (w : BitVec 6) (s : State) : (txAccept w s).cycle = s.cycle := rfl

@[simp] theorem rxAccept_cfg (w : BitVec 6) (s : State) : (rxAccept w s).cfg = s.cfg := rfl
@[simp] theorem rxAccept_fsm (w : BitVec 6) (s : State) : (rxAccept w s).fsm = .rxWaitHigh := rfl
@[simp] theorem rxAccept_lineState (w : BitVec 6) (s : State) : (rxAccept w s).lineState = .idleHigh := rfl
@[simp] theorem rxAccept_sync1 (w : BitVec 6) (s : State) : (rxAccept w s).sync1 = s.sync1 := rfl
@[simp] theorem rxAccept_sync2 (w : BitVec 6) (s : State) : (rxAccept w s).sync2 = s.sync2 := rfl
@[simp] theorem rxAccept_width (w : BitVec 6) (s : State) : (rxAccept w s).width = w := rfl
@[simp] theorem rxAccept_bitidx (w : BitVec 6) (s : State) : (rxAccept w s).bitidx = 0 := rfl
@[simp] theorem rxAccept_phase (w : BitVec 6) (s : State) : (rxAccept w s).phase = s.phase := rfl
@[simp] theorem rxAccept_tcnt (w : BitVec 6) (s : State) : (rxAccept w s).tcnt = s.tcnt := rfl
@[simp] theorem rxAccept_wdog (w : BitVec 6) (s : State) : (rxAccept w s).wdog = 0 := rfl
@[simp] theorem rxAccept_frame (w : BitVec 6) (s : State) : (rxAccept w s).frame = s.frame := rfl
@[simp] theorem rxAccept_rxsh (w : BitVec 6) (s : State) : (rxAccept w s).rxsh = 0 := rfl
@[simp] theorem rxAccept_txdata (w : BitVec 6) (s : State) : (rxAccept w s).txdata = s.txdata := rfl
@[simp] theorem rxAccept_rxdata (w : BitVec 6) (s : State) : (rxAccept w s).rxdata = s.rxdata := rfl
@[simp] theorem rxAccept_done (w : BitVec 6) (s : State) : (rxAccept w s).done = s.done := rfl
@[simp] theorem rxAccept_ferr (w : BitVec 6) (s : State) : (rxAccept w s).ferr = s.ferr := rfl
@[simp] theorem rxAccept_tout (w : BitVec 6) (s : State) : (rxAccept w s).tout = s.tout := rfl
@[simp] theorem rxAccept_cerr (w : BitVec 6) (s : State) : (rxAccept w s).cerr = s.cerr := rfl
@[simp] theorem rxAccept_abrt (w : BitVec 6) (s : State) : (rxAccept w s).abrt = s.abrt := rfl
@[simp] theorem rxAccept_ecause (w : BitVec 6) (s : State) : (rxAccept w s).ecause = s.ecause := rfl
@[simp] theorem rxAccept_inputs (w : BitVec 6) (s : State) : (rxAccept w s).inputs = s.inputs := rfl
@[simp] theorem rxAccept_cycle (w : BitVec 6) (s : State) : (rxAccept w s).cycle = s.cycle := rfl

@[simp] theorem rxTimeout_cfg (s : State) : (rxTimeout s).cfg = s.cfg := rfl
@[simp] theorem rxTimeout_fsm (s : State) : (rxTimeout s).fsm = .idle := rfl
@[simp] theorem rxTimeout_lineState (s : State) : (rxTimeout s).lineState = .idleHigh := rfl
@[simp] theorem rxTimeout_sync1 (s : State) : (rxTimeout s).sync1 = s.sync1 := rfl
@[simp] theorem rxTimeout_sync2 (s : State) : (rxTimeout s).sync2 = s.sync2 := rfl
@[simp] theorem rxTimeout_width (s : State) : (rxTimeout s).width = s.width := rfl
@[simp] theorem rxTimeout_bitidx (s : State) : (rxTimeout s).bitidx = s.bitidx := rfl
@[simp] theorem rxTimeout_phase (s : State) : (rxTimeout s).phase = s.phase := rfl
@[simp] theorem rxTimeout_tcnt (s : State) : (rxTimeout s).tcnt = s.tcnt := rfl
@[simp] theorem rxTimeout_wdog (s : State) : (rxTimeout s).wdog = s.wdog := rfl
@[simp] theorem rxTimeout_frame (s : State) : (rxTimeout s).frame = s.frame := rfl
@[simp] theorem rxTimeout_rxsh (s : State) : (rxTimeout s).rxsh = s.rxsh := rfl
@[simp] theorem rxTimeout_txdata (s : State) : (rxTimeout s).txdata = s.txdata := rfl
@[simp] theorem rxTimeout_rxdata (s : State) : (rxTimeout s).rxdata = s.rxdata := rfl
@[simp] theorem rxTimeout_done (s : State) : (rxTimeout s).done = s.done := rfl
@[simp] theorem rxTimeout_ferr (s : State) : (rxTimeout s).ferr = s.ferr := rfl
@[simp] theorem rxTimeout_tout (s : State) : (rxTimeout s).tout = true := rfl
@[simp] theorem rxTimeout_cerr (s : State) : (rxTimeout s).cerr = s.cerr := rfl
@[simp] theorem rxTimeout_abrt (s : State) : (rxTimeout s).abrt = s.abrt := rfl
@[simp] theorem rxTimeout_ecause (s : State) : (rxTimeout s).ecause = s.ecause := rfl
@[simp] theorem rxTimeout_inputs (s : State) : (rxTimeout s).inputs = s.inputs := rfl
@[simp] theorem rxTimeout_cycle (s : State) : (rxTimeout s).cycle = s.cycle := rfl

@[simp] theorem rxComplete_cfg (r s : State) : (rxComplete r s).cfg = s.cfg := rfl
@[simp] theorem rxComplete_fsm (r s : State) : (rxComplete r s).fsm = .idle := rfl
@[simp] theorem rxComplete_lineState (r s : State) : (rxComplete r s).lineState = .idleHigh := rfl
@[simp] theorem rxComplete_sync1 (r s : State) : (rxComplete r s).sync1 = s.sync1 := rfl
@[simp] theorem rxComplete_sync2 (r s : State) : (rxComplete r s).sync2 = s.sync2 := rfl
@[simp] theorem rxComplete_width (r s : State) : (rxComplete r s).width = s.width := rfl
@[simp] theorem rxComplete_bitidx (r s : State) : (rxComplete r s).bitidx = s.bitidx := rfl
@[simp] theorem rxComplete_phase (r s : State) : (rxComplete r s).phase = s.phase := rfl
@[simp] theorem rxComplete_tcnt (r s : State) : (rxComplete r s).tcnt = s.tcnt := rfl
@[simp] theorem rxComplete_wdog (r s : State) : (rxComplete r s).wdog = s.wdog := rfl
@[simp] theorem rxComplete_frame (r s : State) : (rxComplete r s).frame = s.frame := rfl
@[simp] theorem rxComplete_rxsh (r s : State) : (rxComplete r s).rxsh = s.rxsh := rfl
@[simp] theorem rxComplete_txdata (r s : State) : (rxComplete r s).txdata = s.txdata := rfl
@[simp] theorem rxComplete_rxdata (r s : State) : (rxComplete r s).rxdata = frameDecode r.rxsh r.width.toNat := rfl
@[simp] theorem rxComplete_done (r s : State) : (rxComplete r s).done = true := rfl
@[simp] theorem rxComplete_ferr (r s : State) : (rxComplete r s).ferr = (s.ferr || framingBad r.rxsh r.width.toNat) := rfl
@[simp] theorem rxComplete_tout (r s : State) : (rxComplete r s).tout = s.tout := rfl
@[simp] theorem rxComplete_cerr (r s : State) : (rxComplete r s).cerr = s.cerr := rfl
@[simp] theorem rxComplete_abrt (r s : State) : (rxComplete r s).abrt = s.abrt := rfl
@[simp] theorem rxComplete_ecause (r s : State) : (rxComplete r s).ecause = s.ecause := rfl
@[simp] theorem rxComplete_inputs (r s : State) : (rxComplete r s).inputs = s.inputs := rfl
@[simp] theorem rxComplete_cycle (r s : State) : (rxComplete r s).cycle = s.cycle := rfl

@[simp] theorem abortRunning_cfg (s : State) : (abortRunning s).cfg = s.cfg := rfl
@[simp] theorem abortRunning_fsm (s : State) : (abortRunning s).fsm = .idle := rfl
@[simp] theorem abortRunning_lineState (s : State) : (abortRunning s).lineState = .idleHigh := rfl
@[simp] theorem abortRunning_sync1 (s : State) : (abortRunning s).sync1 = s.sync1 := rfl
@[simp] theorem abortRunning_sync2 (s : State) : (abortRunning s).sync2 = s.sync2 := rfl
@[simp] theorem abortRunning_width (s : State) : (abortRunning s).width = s.width := rfl
@[simp] theorem abortRunning_bitidx (s : State) : (abortRunning s).bitidx = s.bitidx := rfl
@[simp] theorem abortRunning_phase (s : State) : (abortRunning s).phase = s.phase := rfl
@[simp] theorem abortRunning_tcnt (s : State) : (abortRunning s).tcnt = s.tcnt := rfl
@[simp] theorem abortRunning_wdog (s : State) : (abortRunning s).wdog = s.wdog := rfl
@[simp] theorem abortRunning_frame (s : State) : (abortRunning s).frame = s.frame := rfl
@[simp] theorem abortRunning_rxsh (s : State) : (abortRunning s).rxsh = s.rxsh := rfl
@[simp] theorem abortRunning_txdata (s : State) : (abortRunning s).txdata = s.txdata := rfl
@[simp] theorem abortRunning_rxdata (s : State) : (abortRunning s).rxdata = s.rxdata := rfl
@[simp] theorem abortRunning_done (s : State) : (abortRunning s).done = s.done := rfl
@[simp] theorem abortRunning_ferr (s : State) : (abortRunning s).ferr = s.ferr := rfl
@[simp] theorem abortRunning_tout (s : State) : (abortRunning s).tout = s.tout := rfl
@[simp] theorem abortRunning_cerr (s : State) : (abortRunning s).cerr = s.cerr := rfl
@[simp] theorem abortRunning_abrt (s : State) : (abortRunning s).abrt = true := rfl
@[simp] theorem abortRunning_ecause (s : State) : (abortRunning s).ecause = s.ecause := rfl
@[simp] theorem abortRunning_inputs (s : State) : (abortRunning s).inputs = s.inputs := rfl
@[simp] theorem abortRunning_cycle (s : State) : (abortRunning s).cycle = s.cycle := rfl

@[simp] theorem toReset_cfg (s : State) : (toReset s).cfg = s.cfg := rfl
@[simp] theorem toReset_fsm (s : State) : (toReset s).fsm = .idle := rfl
@[simp] theorem toReset_lineState (s : State) : (toReset s).lineState = .idleHigh := rfl
@[simp] theorem toReset_sync1 (s : State) : (toReset s).sync1 = true := rfl
@[simp] theorem toReset_sync2 (s : State) : (toReset s).sync2 = true := rfl
@[simp] theorem toReset_width (s : State) : (toReset s).width = 0 := rfl
@[simp] theorem toReset_bitidx (s : State) : (toReset s).bitidx = 0 := rfl
@[simp] theorem toReset_phase (s : State) : (toReset s).phase = 0 := rfl
@[simp] theorem toReset_tcnt (s : State) : (toReset s).tcnt = 0 := rfl
@[simp] theorem toReset_wdog (s : State) : (toReset s).wdog = 0 := rfl
@[simp] theorem toReset_frame (s : State) : (toReset s).frame = 0 := rfl
@[simp] theorem toReset_rxsh (s : State) : (toReset s).rxsh = 0 := rfl
@[simp] theorem toReset_txdata (s : State) : (toReset s).txdata = 0 := rfl
@[simp] theorem toReset_rxdata (s : State) : (toReset s).rxdata = 0 := rfl
@[simp] theorem toReset_done (s : State) : (toReset s).done = false := rfl
@[simp] theorem toReset_ferr (s : State) : (toReset s).ferr = false := rfl
@[simp] theorem toReset_tout (s : State) : (toReset s).tout = false := rfl
@[simp] theorem toReset_cerr (s : State) : (toReset s).cerr = false := rfl
@[simp] theorem toReset_abrt (s : State) : (toReset s).abrt = false := rfl
@[simp] theorem toReset_ecause (s : State) : (toReset s).ecause = 0 := rfl
@[simp] theorem toReset_inputs (s : State) : (toReset s).inputs = s.inputs := rfl
@[simp] theorem toReset_cycle (s : State) : (toReset s).cycle = s.cycle := rfl

end Sys2Proof.Machine
end

