-- ==== Sys2Proof/Laws/Ops.lean ====
section
/-!
SUPPORT. What each shared operation can do, said once: the acceptance checks, exec, the bus update, the sequencer's
frame, the clock cycle, the step and a run.
-/

namespace Sys2Proof.Machine

@[simp] theorem mapNext_next (f : State → State) (t : State) : mapNext f (.next t) = .next (f t) := rfl

@[simp] theorem next_inj {a b : State} : ((Host.Outcome.next a : Result) = .next b) ↔ b = a :=
  ⟨fun h => by cases h; rfl, fun h => by rw [h]⟩

theorem mapNext_eq_next {f : State → State} {r : Result} {t : State} :
    mapNext f r = .next t ↔ ∃ u, r = .next u ∧ t = f u := by
  cases r <;> simp [mapNext, eq_comm]

/-! ### Checks -/

@[simp] theorem busy_eq_true (s : State) : busy s = true ↔ s.fsm ≠ .idle := by simp [busy]

@[simp] theorem busy_eq_false (s : State) : busy s = false ↔ s.fsm = .idle := by simp [busy]

theorem whenIdle_idle {s : State} (h : s.fsm = .idle) (k : Result) : whenIdle s k = k := by
  simp [whenIdle, h]

theorem whenIdle_busy {s : State} (h : s.fsm ≠ .idle) (k : Result) : whenIdle s k = .next (raiseCmdErr 3 s) := by
  simp [whenIdle, h]

theorem whenFits_le {w : BitVec 6} {s : State} (h : w.toNat ≤ s.cfg.wmax) (k : Result) : whenFits w s k = k := by
  simp [whenFits, h]

theorem whenFits_gt {w : BitVec 6} {s : State} (h : s.cfg.wmax < w.toNat) (k : Result) :
    whenFits w s k = .next (raiseCmdErr 4 s) := by
  simp [whenFits, h]

theorem lastBit_iff (s : State) : lastBit s = true ↔ s.bitidx.toNat + 1 = s.width.toNat + 2 := by
  simp [lastBit, frameLength]

theorem timeoutDue_iff (s : State) :
    timeoutDue s = true ↔ s.cfg.timeoutCycles ≠ 0 ∧ s.wdog.toNat = s.cfg.timeoutCycles - 1 := by
  simp [timeoutDue]

theorem outputMode_eq_true (l : LineState) : outputMode l = true ↔ l = .drivenLow ∨ l = .drivenHigh := by
  cases l <;> simp [outputMode]

theorem inputMode_eq_true (l : LineState) : inputMode l = true ↔ l = .idleHigh ∨ l = .floatingInput := by
  cases l <;> simp [inputMode]

/-! ### Commands -/

/-- Everything a command written to an idle block can do (44 R92). -/
theorem exec_idle_next {i : Instr} {s t : State} (hs : s.fsm = .idle) (h : exec i s = .next t) :
    (t = s ∧ (i = .nop ∨ i = .abort)) ∨
    (i.wellFormed s.cfg = false ∧ t = raiseCmdErr 4 s) ∨
    (∃ w, i = .send w ∧ w.toNat ≤ s.cfg.wmax ∧ t = txAccept w s) ∨
    (∃ w, i = .receive w ∧ w.toNat ≤ s.cfg.wmax ∧ t = rxAccept w s) ∨
    (∃ l, i = .setOut l ∧ t = setLine (drv l) s) ∨
    (∃ p, i = .setIn p ∧ t = setLine (pulled p) s) ∨
    (∃ l, i = .write l ∧ outputMode s.lineState = true ∧ t = setLine (drv l) s) ∨
    (∃ l, i = .write l ∧ outputMode s.lineState = false ∧ t = raiseCmdErr 5 s) ∨
    (i = .read ∧ inputMode s.lineState = true ∧ t = setRxdata (lineWord s) s) ∨
    (i = .read ∧ inputMode s.lineState = false ∧ t = raiseCmdErr 6 s) := by
  cases i with
  | nop => exact .inl ⟨next_inj.1 h, .inl rfl⟩
  | abort =>
    simp only [exec, execAbort, (busy_eq_false s).2 hs] at h
    exact .inl ⟨next_inj.1 h, .inr rfl⟩
  | send w =>
    simp only [exec, execSend, whenIdle_idle hs, whenFits] at h
    split at h <;> simp_all [Instr.wellFormed]
  | receive w =>
    simp only [exec, execReceive, whenIdle_idle hs, whenFits] at h
    split at h <;> simp_all [Instr.wellFormed]
  | setOut l => simp_all [exec, execSetOut, whenIdle_idle hs]
  | setIn p => simp_all [exec, execSetIn, whenIdle_idle hs]
  | write l =>
    simp only [exec, execWrite, whenIdle_idle hs] at h
    split at h <;> simp_all
  | read =>
    simp only [exec, execRead, whenIdle_idle hs] at h
    split at h <;> simp_all

/-- Everything a command written to a busy block can do (44 R93, R96, R97). -/
theorem exec_busy_next {i : Instr} {s t : State} (hs : s.fsm ≠ .idle) (h : exec i s = .next t) :
    (i = .nop ∧ t = s) ∨ (i = .abort ∧ t = abortRunning s) ∨
    (i ≠ .nop ∧ i ≠ .abort ∧ t = raiseCmdErr 3 s) := by
  cases i <;>
    simp_all [exec, execNop, execAbort, execSend, execReceive, execSetOut, execSetIn, execWrite, execRead,
      whenIdle_busy hs]

/-- Every command completes: no arm faults or refuses. -/
theorem exec_answers_next (i : Instr) (s : State) : ∃ t, exec i s = .next t := by
  by_cases hs : busy s = true <;> cases i <;>
    simp only [exec, execNop, execAbort, execSend, execReceive, execSetOut, execSetIn, execWrite, execRead, whenIdle,
      whenFits, hs] <;>
    repeat' first | exact ⟨_, rfl⟩ | split

/-! ### The bus -/

@[simp] theorem busKind_zero : busKind 0 = .none := rfl
@[simp] theorem busKind_one : busKind 1 = .read := rfl
@[simp] theorem busKind_two : busKind 2 = .write := rfl

theorem busKind_eq_write (op : BitVec 2) : busKind op = .write ↔ op = 2 := by revert op; decide

theorem busKind_eq_read (op : BitVec 2) : busKind op = .read ↔ op = 1 := by revert op; decide

theorem writesAbort_iff (i : PortIn) : writesAbort i = true ↔ writesCommand i .abort := by
  simp [writesAbort, and_assoc]

/-- A cycle without a WRITE has no bus assignment (20 R34). -/
theorem busUpdate_of_not_write {s : State} {i : PortIn} (h : busKind i.busOp ≠ .write) : busUpdate s i = .next s := by
  unfold busUpdate
  cases hk : busKind i.busOp <;> simp_all

/-- The WRITE of each register (20 R35). -/
theorem busUpdate_of_write {s : State} {i : PortIn} (h : busKind i.busOp = .write) :
    busUpdate s i = registerWrite s i.busAddr i.busWdata := by
  simp [busUpdate, h]

/-- Everything a bus operation can do (20 R35). -/
theorem busUpdate_next {s b : State} {i : PortIn} (h : busUpdate s i = .next b) :
    (b = s ∧ ¬ (writesRegister i 0 ∨ writesRegister i 1 ∨ writesRegister i 2)) ∨
    (writesRegister i 0 ∧ cmdWrite s i.busWdata = .next b) ∨
    (writesRegister i 1 ∧ b = clearFlags i.busWdata s) ∨
    (writesRegister i 2 ∧ b = setTxdata i.busWdata s) := by
  by_cases hw : busKind i.busOp = .write
  · rw [busUpdate_of_write hw] at h
    unfold registerWrite at h
    have key : ∀ k : BitVec 3, registerIndex i.busAddr = k ↔ (registerIndex i.busAddr).toNat = k.toNat :=
      fun k => BitVec.toNat_inj.symm
    split at h <;> rename_i hk <;> simp_all [writesRegister]
  · rw [busUpdate_of_not_write hw] at h
    simp_all [writesRegister]

/-- Everything a word written to CMD can do (44 R92). -/
theorem cmdWrite_next {s b : State} {v : Word} (h : cmdWrite s v = .next b) :
    (∃ e, decode v = .bad e ∧ b = raiseCmdErr (decodeCause e) s) ∨
    (∃ c, decode v = .cmd c ∧ exec c s = .next b) := by
  unfold cmdWrite at h
  split at h <;> simp_all

/-- Every bus operation completes. -/
theorem busUpdate_answers_next (s : State) (i : PortIn) : ∃ b, busUpdate s i = .next b := by
  unfold busUpdate registerWrite cmdWrite
  split
  · split
    · split
      · exact ⟨_, rfl⟩
      · exact exec_answers_next _ _
    all_goals exact ⟨_, rfl⟩
  all_goals exact ⟨_, rfl⟩

/-- While busy, a bus operation other than ABORT touches only TXDATA, the flags and ERR_CAUSE (44 R93, R94, 20 R35). -/
theorem busUpdate_busy {s b : State} {i : PortIn} (hs : s.fsm ≠ .idle) (ha : writesAbort i = false)
    (h : busUpdate s i = .next b) :
    ∃ x d f o c a e, b = { s with txdata := x, done := d, ferr := f, tout := o, cerr := c, abrt := a, ecause := e } := by
  rcases busUpdate_next h with ⟨rfl, -⟩ | ⟨hr, hc⟩ | ⟨-, rfl⟩ | ⟨-, rfl⟩
  · exact ⟨_, _, _, _, _, _, _, rfl⟩
  · rcases cmdWrite_next hc with ⟨e, -, rfl⟩ | ⟨c, hd, he⟩
    · exact ⟨_, _, _, _, _, _, _, rfl⟩
    · rcases exec_busy_next hs he with ⟨rfl, rfl⟩ | ⟨rfl, rfl⟩ | ⟨-, -, rfl⟩
      · exact ⟨_, _, _, _, _, _, _, rfl⟩
      · have : writesAbort i = true := (writesAbort_iff i).2 ⟨hr, hd⟩
        simp_all
      · exact ⟨_, _, _, _, _, _, _, rfl⟩
  · exact ⟨_, _, _, _, _, _, _, rfl⟩
  · exact ⟨_, _, _, _, _, _, _, rfl⟩

/-! ### The clock cycle -/

theorem seqUpdate_idle {s : State} (h : s.fsm = .idle) (t : State) : seqUpdate s t = t := by simp [seqUpdate, h]

/-- What the sequencer never assigns (10 R30). -/
theorem seqUpdate_frame (s t : State) :
    (seqUpdate s t).cfg = t.cfg ∧ (seqUpdate s t).sync1 = t.sync1 ∧ (seqUpdate s t).sync2 = t.sync2 ∧
    (seqUpdate s t).width = t.width ∧ (seqUpdate s t).frame = t.frame ∧ (seqUpdate s t).txdata = t.txdata ∧
    (seqUpdate s t).cerr = t.cerr ∧ (seqUpdate s t).abrt = t.abrt ∧ (seqUpdate s t).ecause = t.ecause ∧
    (seqUpdate s t).inputs = t.inputs ∧ (seqUpdate s t).cycle = t.cycle := by
  unfold seqUpdate txStep rxWaitHighStep rxDelayStep rxWaitLowStep
  split
  · simp
  all_goals split_ifs <;> simp

theorem abortWins_eq_true (s : State) (i : PortIn) :
    abortWins s i = true ↔ s.fsm ≠ .idle ∧ writesCommand i .abort := by
  simp [abortWins, writesAbort_iff]

/-- Everything a clock cycle can do (10 R30). -/
theorem clock_eq_next {s t : State} {i : PortIn} :
    clock s i = .next t ↔
      s.cfg.legal = true ∧
        ((i.rst = true ∧ t = toReset s) ∨
         (i.rst = false ∧ ∃ b, busUpdate s i = .next b ∧ t = finishCycle s i b)) := by
  unfold clock
  split_ifs with hl hr
  · simp [hl, hr, eq_comm]
  · simp [hl, hr, mapNext_eq_next]
  · simp [hl]

/-- A clock cycle answers with a refusal only for an illegal configuration, and never with a fault. -/
theorem clock_answers {s : State} (i : PortIn) (h : s.cfg.legal = true) : ∃ t, clock s i = .next t := by
  obtain ⟨b, hb⟩ := busUpdate_answers_next s i
  by_cases hr : i.rst = true
  · exact ⟨_, clock_eq_next.2 ⟨h, .inl ⟨hr, rfl⟩⟩⟩
  · exact ⟨_, clock_eq_next.2 ⟨h, .inr ⟨by simpa using hr, b, hb, rfl⟩⟩⟩

/-- Everything a step can do: a clock cycle with the next input ports, which are then used up. -/
theorem step_eq_next {s t : State} :
    step s = .next t ↔ ∃ u, clock s (nextInput s) = .next u ∧ t = passCycle u := mapNext_eq_next

@[simp] theorem endpointInput_cons {e : Endpoint} {s : State} {i : PortIn} {more : List PortIn}
    (h : s.inputs = i :: more) : endpointInput e s = i := by simp [endpointInput, h]

@[simp] theorem endpointInput_nil {e : Endpoint} {s : State} (h : s.inputs = []) :
    endpointInput e s = freeInput e s.cycle := by simp [endpointInput, h]

@[simp] theorem nextInput_cons {s : State} {i : PortIn} {more : List PortIn} (h : s.inputs = i :: more) :
    nextInput s = i := endpointInput_cons h

@[simp] theorem run_zero (s : State) : run 0 s = .next s := rfl

theorem run_succ (n : Nat) (s : State) :
    run (n + 1) s = match step s with
      | .next t => run n t
      | .fault r => .fault r
      | .refused r => .refused r := by
  have h := Host.Core.run.eq_2 Sys2Proof.core s n
  have hstep : Sys2Proof.core.step s = step s := rfl
  rw [hstep] at h
  unfold run
  refine h.trans ?_
  cases step s <;> rfl

/-- A run of m + n cycles is a run of m and then of n. -/
theorem run_add {m n : Nat} {s t : State} (h : run m s = .next t) : run (m + n) s = run n t := by
  induction m generalizing s with
  | zero => simp_all
  | succ m ih =>
    rw [Nat.succ_add, run_succ]
    rw [run_succ] at h
    cases hs : step s <;> simp_all

end Sys2Proof.Machine
end

