-- ==== Sys2Proof/Laws/PerInstr.lean ====
section
/-!
SUPPORT. The family EncodingFields: the fields of each command's word (30 R48, R50).
-/

namespace Sys2Proof.Laws.EncodingFields

/-- The word of i has i's opcode in OP and zeros in RES (30 R48, R50). -/
def Statement (i : Instr) : Prop := opField (encode i) = opcode i ∧ resField (encode i) = 0

theorem nop : Statement .nop := by unfold Statement; decide
theorem send (w : BitVec 6) : Statement (.send w) := by unfold Statement; revert w; decide
theorem receive (w : BitVec 6) : Statement (.receive w) := by unfold Statement; revert w; decide
theorem setOut (l : Bool) : Statement (.setOut l) := by unfold Statement; revert l; decide
theorem setIn (p : Bool) : Statement (.setIn p) := by unfold Statement; revert p; decide
theorem write (l : Bool) : Statement (.write l) := by unfold Statement; revert l; decide
theorem read : Statement .read := by unfold Statement; decide
theorem abort : Statement .abort := by unfold Statement; decide

end Sys2Proof.Laws.EncodingFields
end

