-- ==== Sys2Proof/Tests/Slice0.lean ====
section
/-!
SUPPORT. The model's own tests. Expected values come from spec/95_test_vectors.md (named in each comment) or are worked by
hand from the rules. The theorems named `witness_...` show that a statement's hypotheses can be met together.
-/

open Sys2Proof Sys2Proof.Machine

namespace Sys2Proof.Tests

/-! ### WellFormed -/

theorem test_legal_reference : referenceParams.legal = true := by decide
theorem test_legal_bounds :
    ({ frequencyHz := 166666 } : Params).legal = true ∧ ({ frequencyHz := 1 } : Params).legal = true := by decide
theorem test_illformed_frequency_low : ({ frequencyHz := 0 } : Params).frequencyOk = false := by decide
theorem test_illformed_frequency_high : ({ frequencyHz := 166667 } : Params).frequencyOk = false := by decide
theorem test_illformed_wmax_low : ({ frequencyHz := 12000, wmax := 0 } : Params).wmaxOk = false := by decide
theorem test_illformed_wmax_high : ({ frequencyHz := 12000, wmax := 33 } : Params).wmaxOk = false := by decide
theorem test_illformed_p2Ticks : ({ frequencyHz := 12000, p2Ticks := 3 } : Params).p2TicksOk = false := by decide
theorem test_illformed_timeout :
    ({ frequencyHz := 12000, timeoutCycles := 2 ^ 32 } : Params).timeoutOk = false := by decide
theorem test_illformed_configuration : ({ frequencyHz := 166667 } : Params).legal = false := by decide
theorem test_illformed_send : (Instr.send 33).wellFormed referenceParams = false := by decide
theorem test_illformed_receive : (Instr.receive 40).wellFormed referenceParams = false := by decide
theorem test_wellformed_send : (Instr.send 32).wellFormed referenceParams = true := by decide

/-! ### Decode: words written out from 30 R48 and R50, fields RES, ARG, WIDTH, OP from the left -/

theorem test_decode_nop : decode 0b000000000000000000000_0_000000_0000 = .cmd .nop := by decide
theorem test_decode_send : decode 0b000000000000000000000_0_000011_0001 = .cmd (.send 3) := by decide
theorem test_decode_receive : decode 0b000000000000000000000_0_100001_0010 = .cmd (.receive 33) := by decide
theorem test_decode_setOut : decode 0b000000000000000000000_1_000000_0011 = .cmd (.setOut true) := by decide
theorem test_decode_setIn : decode 0b000000000000000000000_1_000000_0100 = .cmd (.setIn true) := by decide
theorem test_decode_write : decode 0b000000000000000000000_0_000000_0101 = .cmd (.write false) := by decide
theorem test_decode_read : decode 0b000000000000000000000_0_000000_0110 = .cmd .read := by decide
theorem test_decode_abort : decode 0b000000000000000000000_0_000000_0111 = .cmd .abort := by decide
/-- 95 V2: the words that are no command. -/
theorem test_decode_rejects :
    ([0x00000010, 0x00000401, 0x00000013, 0x00000016, 0x00000406, 0x00000407, 0x80000001, 0x00000800] : List Word).map
        decode = List.replicate 8 (.bad .fieldNotZero) ∧
      ([0x0000000F, 0x80000008] : List Word).map decode = List.replicate 2 (.bad .reservedOpcode) := by decide
theorem test_decodeTableWord : decodeTableWord 32 0x31 = some (.send 3) ∧ decodeTableWord 32 0x8 = none := by decide

/-! ### Parameters and the codec (95 E1, E2, V1) -/

theorem test_tick_12000 : tickCycles referenceParams = 27 ∧ sampleDelay referenceParams = 40 := by decide
theorem test_tick_slowest :
    tickCycles { frequencyHz := 1 } = 333333 ∧ sampleDelay { frequencyHz := 1 } = 499999 := by decide
theorem test_info_words :
    infoWord referenceParams = 0x00002120 ∧ infoWord { frequencyHz := 1, wmax := 8, p2Ticks := 2 } = 0x00002208 := by
  decide
theorem test_encode_frames :
    frameEncode 5 3 = 0x1A ∧ frameEncode 0xA5 8 = 0x34A ∧ frameEncode 0xFFFFFFFF 32 = 0x3FFFFFFFE ∧
      frameEncode 0 0 = 0x2 ∧ frameEncode 0xD 3 = 0x1A := by decide
theorem test_decode_frames : frameDecode 0x1A 3 = 5 ∧ frameDecode 0x3FFFFFFFE 32 = 0xFFFFFFFF := by decide

/-! ### One step of each command, "T=2" (95 conventions) -/

/-- A block just after reset with FREQUENCY_HZ = 150000: TICK_CYCLES = 2, SAMPLE_DELAY = 3. -/
def fresh : State := State.resetWith { frequencyHz := 150000 }

/-- The SEND 3 of TXDATA = 5 of 95 P1, at a given bit, phase, count and line state. -/
def sending (bit : BitVec 6) (ph : BitVec 2) (count : BitVec 32) (l : LineState) : State :=
  { fresh with fsm := .tx, width := 3, txdata := 5, frame := 0x1A, bitidx := bit, phase := ph, tcnt := count, lineState := l }

/-- A RECEIVE 0 in the given state, with TIMEOUT_CYCLES = 10. -/
def receiving (f : Fsm) (bit : BitVec 6) (level : Bool) (count wd : BitVec 32) (samples : Image) : State :=
  { fresh with
    cfg := { frequencyHz := 150000, timeoutCycles := 10 }, fsm := f, bitidx := bit, sync1 := level, sync2 := level
    tcnt := count, wdog := wd, rxsh := samples }

/-- A cycle without a bus operation. -/
def noneCycle (line : Bool) : PortIn := { rst := false, busOp := 0, busAddr := 0, busWdata := 0, lineI := line }

/-- A cycle with a bus READ. -/
def readCycle (a : BusAddr) : PortIn := { rst := false, busOp := 1, busAddr := a, busWdata := 0, lineI := true }

/-- A cycle with reset. -/
def resetCycle : PortIn := { rst := true, busOp := 0, busAddr := 0, busWdata := 0, lineI := true }

/-- A cycle that writes a command's word to CMD. -/
def commandCycle (c : Instr) : PortIn := writeCycle 0x00 (encode c) true

/-- The state after a clock cycle. -/
def after (s : State) (i : PortIn) : State :=
  match clock s i with
  | .next t => t
  | .fault _ => s
  | .refused _ => s

theorem clock_after {s : State} (i : PortIn) (h : s.cfg.legal = true) : clock s i = .next (after s i) := by
  obtain ⟨t, ht⟩ := clock_answers i h
  simp [after, ht]

/-- STATUS after the step that runs the command word w. -/
def statusAfter (s : State) (w : Nat) : Option Word :=
  match step (s.withFetchWord 32 w) with
  | .next t => some (statusWord t)
  | .fault _ => none
  | .refused _ => none

/-- RXDATA after the step that runs the command word w. -/
def rxdataAfter (s : State) (w : Nat) : Option Word :=
  match step (s.withFetchWord 32 w) with
  | .next t => some t.rxdata
  | .fault _ => none
  | .refused _ => none

/-- frame after the step that runs the command word w. -/
def frameAfter (s : State) (w : Nat) : Option Image :=
  match step (s.withFetchWord 32 w) with
  | .next t => some t.frame
  | .fault _ => none
  | .refused _ => none

/-- 95 P1: STATUS at 2. -/
theorem test_send_status : statusAfter { fresh with txdata := 5 } 0x31 = some 0x0000020B := by decide
/-- 95 P1 and E5: the frame, the value truncated. -/
theorem test_send_frame : frameAfter { fresh with txdata := 0xD } 0x31 = some 0x1A := by decide
/-- 95 P5: STATUS at 1. -/
theorem test_receive_status : statusAfter fresh 0x12 = some 0x00000409 := by decide
/-- 95 V2: RECEIVE 40 is cause 4. -/
theorem test_receive_too_wide : statusAfter fresh 0x282 = some 0x00100088 := by decide
/-- 95 P4: STATUS at 1. -/
theorem test_setOut_low : statusAfter fresh 0x3 = some 0x0000000A := by decide
/-- 95 V6: SET_OUT while a SEND runs is cause 3 and the SEND goes on (95 V4: STATUS 0x000C0285 at 6). -/
theorem test_setOut_busy :
    statusAfter { sending 0 2 0 .drivenLow with sync1 := false, sync2 := false } 0x403 = some 0x000C0285 := by decide
/-- 95 P4: STATUS at 4, the line released. -/
theorem test_setIn_pull :
    statusAfter { fresh with lineState := .drivenHigh, sync1 := false, cerr := true, ecause := 6 } 0x404 = some 0x00180080 := by
  decide
theorem test_setIn_float : statusAfter fresh 0x4 = some 0x0000000E := by decide
/-- 95 V3: WRITE while IDLE_HIGH is cause 5. -/
theorem test_write_input_mode : statusAfter fresh 0x405 = some 0x00140088 := by decide
theorem test_write_output_mode : statusAfter { fresh with lineState := .drivenLow } 0x405 = some 0x0000000C := by decide
/-- 95 P4: READ at 6 gives RXDATA = 1. -/
theorem test_read_high : rxdataAfter { fresh with rxdata := 0xFFFF } 0x6 = some 1 := by decide
/-- 95 P4: READ while DRIVEN_LOW is cause 6, STATUS at 2. -/
theorem test_read_output_mode : statusAfter { fresh with lineState := .drivenLow } 0x6 = some 0x0018008A := by decide
/-- 95 V6: ABORT in the completing cycle wins, STATUS 0x00004108. -/
theorem test_abort_wins : statusAfter (sending 4 3 0 .drivenHigh) 0x7 = some 0x00004108 := by decide
theorem test_abort_idle : statusAfter fresh 0x7 = some 0x00000008 := by decide
/-- 95 V4: NOP in the completing cycle does not disturb it, STATUS 0x00005018 at 32. -/
theorem test_nop_busy : statusAfter (sending 4 3 0 .drivenHigh) 0x0 = some 0x00005018 := by decide
theorem test_nop_idle : statusAfter fresh 0x0 = some 0x00000008 := by decide

/-! ### The sequencer and the bus, one cycle -/

/-- 95 V6: a W1C in the cycle that sets DONE does not clear it; one cycle later it does. -/
theorem test_w1c_same_cycle :
    statusWord (after (sending 4 3 0 .drivenHigh) (writeCycle 0x04 0x10 true)) = 0x00005018 ∧
      statusWord (after { fresh with bitidx := 5, done := true } (writeCycle 0x04 0x10 true)) = 0x00005008 := by decide
/-- 95 P2: B completes in cycle 32 with RXDATA = 5 and STATUS 0x00005018. -/
theorem test_receive_completes :
    statusWord (after { fresh with fsm := .rxWaitLow, width := 3, bitidx := 4, rxsh := 0x1A } (noneCycle true)) = 0x00005018 ∧
      (after { fresh with fsm := .rxWaitLow, width := 3, bitidx := 4, rxsh := 0x1A } (noneCycle true)).rxdata = 5 := by decide
/-- 95 V5: a start sample of 1 sets FRAME_ERR (RXDATA = 5, rxsh = 0x1B, STATUS 0x00005038). -/
theorem test_frame_error :
    statusWord (after { fresh with fsm := .rxWaitLow, width := 3, bitidx := 4, rxsh := 0x1B } (noneCycle true)) = 0x00005038 := by
  decide
/-- 95 P5: timeout in cycle 10, when wdog = 9. -/
theorem test_timeout : statusWord (after (receiving .rxWaitHigh 0 true 0 9 0) (noneCycle true)) = 0x00000048 := by decide
/-- 95 V6: a write to a read-only register is ignored. -/
theorem test_readonly_write : after fresh (writeCycle 0x0C 0xFFFFFFFF true) = fresh := by decide
/-- 95 V6: a read of CMD is 0, a read at 0x05 is STATUS. -/
theorem test_reads : readValue fresh 0x00 = 0 ∧ readValue fresh 0x05 = 0x00000008 := by decide
/-- 20 R47: two drivers at different levels, a driver and an idle pull, and nobody. -/
theorem test_wire :
    wireState (pad .drivenLow) (pad .drivenHigh) = .contention ∧ wireState (pad .drivenLow) (pad .idleHigh) = .level false ∧
      wireState (pad .idleHigh) (pad .floatingInput) = .level true ∧
      wireState (pad .floatingInput) (pad .floatingInput) = .floating := by decide
/-- 30 R54: IDLE, and a line that waits for its cycle. -/
theorem test_host_lines :
    hostCycle 0 fresh [{ at? := none, line := .idle 0 }, { at? := none, line := .word 8 }] = (.write 0x00 8, []) ∧
      hostCycle 4 fresh [{ at? := some 5, line := .rd 0x04 }] = (.none, [{ at? := some 5, line := .rd 0x04 }]) := by decide

/-! ### Hypotheses that can be met: one witness per statement, per clause where it has several -/

theorem witness_DecodeClassifiesEveryWord :
    8 ≤ ((0x00000008 : Word).extractLsb' 0 4).toNat ∧ 8 ≤ ((0x8000000F : Word).extractLsb' 0 4).toNat ∧
    (((0x00000807 : Word).extractLsb' 0 4).toNat < 8 ∧ (0x00000807 : Word).extractLsb' 11 21 ≠ 0) ∧
    ((0x00000400 : Word).extractLsb' 11 21 = 0 ∧ (0x00000400 : Word).extractLsb' 0 4 = 0) ∧
    ((0x000003F1 : Word).extractLsb' 11 21 = 0 ∧ (0x000003F1 : Word).extractLsb' 0 4 = 1) ∧
    ((0x00000402 : Word).extractLsb' 11 21 = 0 ∧ (0x00000402 : Word).extractLsb' 0 4 = 2) ∧
    ((0x00000403 : Word).extractLsb' 11 21 = 0 ∧ (0x00000403 : Word).extractLsb' 0 4 = 3) ∧
    ((0x00000014 : Word).extractLsb' 11 21 = 0 ∧ (0x00000014 : Word).extractLsb' 0 4 = 4) ∧
    ((0x00000005 : Word).extractLsb' 11 21 = 0 ∧ (0x00000005 : Word).extractLsb' 0 4 = 5) ∧
    ((0x00000016 : Word).extractLsb' 11 21 = 0 ∧ (0x00000016 : Word).extractLsb' 0 4 = 6) ∧
    ((0x00000007 : Word).extractLsb' 11 21 = 0 ∧ (0x00000007 : Word).extractLsb' 0 4 = 7) ∧
    (decode 0x000003F1 = .cmd (.send 63)) := by decide

theorem witness_CommandWordsOfTheOpcodeMap : 8 ≤ ((0x00000008 : Word).extractLsb' 0 4).toNat := by decide

theorem witness_SendIsAccepted :
    fresh.fsm = .idle ∧ (32 : BitVec 6).toNat ≤ fresh.cfg.wmax ∧ (0 : BitVec 6).toNat ≤ fresh.cfg.wmax := by decide

theorem witness_ReceiveIsAccepted :
    fresh.fsm = .idle ∧ (32 : BitVec 6).toNat ≤ fresh.cfg.wmax ∧ (0 : BitVec 6).toNat ≤ fresh.cfg.wmax := by decide

theorem witness_SetOutDrivesTheLevel : (setLine .floatingInput fresh).fsm = .idle := by decide

theorem witness_SetInReleasesTheLine : (setLine .drivenLow fresh).fsm = .idle := by decide

theorem witness_WriteDrivesOnlyInOutputMode :
    (fresh.fsm = .idle ∧ fresh.lineState = .idleHigh) ∧
    ((setLine .drivenLow fresh).fsm = .idle ∧ (setLine .drivenLow fresh).lineState = .drivenLow) := by decide

theorem witness_ReadSamplesOnlyInInputMode :
    (fresh.fsm = .idle ∧ fresh.lineState = .idleHigh) ∧
    ((setLine .drivenHigh fresh).fsm = .idle ∧ (setLine .drivenHigh fresh).lineState = .drivenHigh) := by decide

theorem witness_AbortReleasesARunningCommand : (sending 0 1 0 .drivenLow).fsm ≠ .idle ∧ fresh.fsm = .idle := by decide

theorem witness_BusyRejectsEveryOtherCommand :
    (receiving .rxDelay 0 true 0 0 0).fsm ≠ .idle ∧ Instr.read ≠ .nop ∧ Instr.read ≠ .abort := by decide

theorem witness_TooWideTransfersAreRejected : fresh.fsm = .idle ∧ fresh.cfg.wmax < (33 : BitVec 6).toNat := by decide

theorem witness_CmdWriteChecksInOrder :
    ((writeCycle 0x03 0 true).busOp = 2 ∧ (writeCycle 0x03 0 true).busAddr.extractLsb' 2 3 = 0) ∧
    decode 0x00000008 = .bad .reservedOpcode ∧ decode 0x00000401 = .bad .fieldNotZero ∧ decode 0x00000000 = .cmd .nop ∧
    decode 0x00000007 = .cmd .abort ∧
    (decode 0x00000211 = .cmd (.send 33) ∧ Instr.send 33 ≠ .nop ∧ Instr.send 33 ≠ .abort ∧
      (sending 0 1 0 .drivenLow).fsm ≠ .idle) ∧
    (decode 0x00000211 = .cmd (.send 33) ∧ fresh.fsm = .idle ∧ (Instr.send 33).wellFormed fresh.cfg = false) ∧
    (decode 0x00000201 = .cmd (.send 32) ∧ (32 : BitVec 6).toNat ≤ fresh.cfg.wmax) ∧
    (decode 0x00000202 = .cmd (.receive 32) ∧ (32 : BitVec 6).toNat ≤ fresh.cfg.wmax) ∧
    decode 0x00000403 = .cmd (.setOut true) ∧ decode 0x00000404 = .cmd (.setIn true) ∧
    decode 0x00000405 = .cmd (.write true) ∧ decode 0x00000006 = .cmd .read := by decide

theorem witness_ConstantRegistersReadTheParameters :
    fresh.cfg.legal = true ∧ fresh.cfg.wmax = 32 ∧ fresh.cfg.p2Ticks = 1 := by decide

theorem witness_ReadsReturnTheRegisterAndChangeNothing :
    (0x03 : BusAddr).extractLsb' 2 3 = 0 ∧ (0x04 : BusAddr).extractLsb' 2 3 = 1 ∧ (0x0B : BusAddr).extractLsb' 2 3 = 2 ∧
    (0x0C : BusAddr).extractLsb' 2 3 = 3 ∧ (0x13 : BusAddr).extractLsb' 2 3 = 4 ∧ (0x14 : BusAddr).extractLsb' 2 3 = 5 ∧
    (0x1B : BusAddr).extractLsb' 2 3 = 6 ∧ (0x1C : BusAddr).extractLsb' 2 3 = 7 ∧ (readCycle 0x04).busOp = 1 := by decide

theorem witness_AddressesOfAWordReachOneRegister : 7 < 8 ∧ 3 < 4 := by decide

theorem witness_BusWritesReachTheirRegister :
    ((writeCycle 0x03 0 true).busOp = 2 ∧ (writeCycle 0x03 0 true).busAddr.extractLsb' 2 3 = 0) ∧
    ((writeCycle 0x04 0 true).busOp = 2 ∧ (writeCycle 0x04 0 true).busAddr.extractLsb' 2 3 = 1) ∧
    ((writeCycle 0x0B 0 true).busOp = 2 ∧ (writeCycle 0x0B 0 true).busAddr.extractLsb' 2 3 = 2) ∧
    ((writeCycle 0x0C 0 true).busOp = 2 ∧ 3 ≤ ((writeCycle 0x0C 0 true).busAddr.extractLsb' 2 3).toNat) ∧
    (noneCycle true).busOp ≠ 2 := by decide

theorem witness_StatusWriteClearsWhatTheSequencerDoesNotSet :
    (writeCycle 0x04 0x10 true).rst = false ∧ writesRegister (writeCycle 0x04 0x10 true) 1 ∧
    clock (sending 4 3 0 .drivenHigh) { writeCycle 0x04 0x10 true with busOp := 0 } =
      .next (after (sending 4 3 0 .drivenHigh) { writeCycle 0x04 0x10 true with busOp := 0 }) :=
  ⟨by decide, by decide, clock_after _ (by decide)⟩

theorem witness_RejectionSetsOnlyTheErrorRecord :
    ((commandCycle .read).rst = false ∧ writesRegister (commandCycle .read) 0 ∧
      cmdWrite (sending 4 3 0 .drivenHigh) (encode .read) = .next (raiseCmdErr 3 (sending 4 3 0 .drivenHigh)) ∧
      writesAbort (commandCycle .read) = false ∧
      clock (sending 4 3 0 .drivenHigh) { commandCycle .read with busOp := 0 } =
        .next (after (sending 4 3 0 .drivenHigh) { commandCycle .read with busOp := 0 })) ∧
    (clock (raiseCmdErr 1 fresh) (writeCycle 0x04 0x7F true) =
        .next (after (raiseCmdErr 1 fresh) (writeCycle 0x04 0x7F true)) ∧
      (raiseCmdErr 1 fresh).cerr = true ∧ (writeCycle 0x04 0x7F true).rst = false ∧
      ¬ (writesRegister (writeCycle 0x04 0x7F true) 1 ∧ (writeCycle 0x04 0x7F true).busWdata.getLsbD 7 = true)) :=
  ⟨⟨by decide, by decide, rfl, by decide, clock_after _ (by decide)⟩,
    clock_after _ (by decide), by decide, by decide, by decide⟩

/-- Each flag is set, and cleared, in some cycle. -/
theorem witness_FlagsChangeOnlyByTheirEvents :
    ((sending 4 3 0 .drivenHigh).cfg.legal = true ∧ (sending 4 3 0 .drivenHigh).done = false ∧
      (after (sending 4 3 0 .drivenHigh) (noneCycle true)).done = true) ∧
    (after (receiving .rxWaitLow 1 true 0 0 1) (noneCycle true)).ferr = true ∧
    (after (receiving .rxWaitHigh 0 true 0 9 0) (noneCycle true)).tout = true ∧
    (after fresh (writeCycle 0x00 0x8 true)).cerr = true ∧
    (after (sending 4 3 0 .drivenHigh) (commandCycle .abort)).abrt = true ∧
    (after { fresh with done := true } (writeCycle 0x04 0x10 true)).done = false ∧
    (after { fresh with ferr := true } (writeCycle 0x04 0x20 true)).ferr = false ∧
    (after { fresh with tout := true } (writeCycle 0x04 0x40 true)).tout = false ∧
    (after { fresh with cerr := true } (writeCycle 0x04 0x80 true)).cerr = false ∧
    (after { fresh with abrt := true } (writeCycle 0x04 0x100 true)).abrt = false ∧
    (after fresh (writeCycle 0x00 0x8 true)).ecause ≠ fresh.ecause := by decide

theorem witness_DataRegistersChangeOnlyByTheirEvents :
    (after fresh (commandCycle .read)).rxdata ≠ fresh.rxdata ∧
    (after { fresh with fsm := .rxWaitLow, width := 1, bitidx := 2, rxsh := 6 } (noneCycle true)).rxdata = 1 ∧
    (after fresh (writeCycle 0x08 5 true)).txdata ≠ fresh.txdata ∧
    (after fresh (commandCycle (.send 0))).frame ≠ fresh.frame := by decide

/-- A cycle of each kind that changes line_state, and the premises of the other clauses. -/
theorem witness_LineStateTransitionsAreTheListedOnes :
    ((setLine .drivenLow fresh).cfg.legal = true ∧
      (after (setLine .drivenLow fresh) resetCycle).lineState = .idleHigh ∧
      (after fresh (commandCycle (.setOut false))).lineState = .drivenLow ∧
      (after fresh (commandCycle (.setIn false))).lineState = .floatingInput ∧
      (after (setLine .drivenLow fresh) (commandCycle (.write true))).lineState = .drivenHigh ∧
      (after fresh (commandCycle (.send 3))).lineState = .drivenLow ∧
      (after (sending 1 1 0 .drivenLow) (noneCycle true)).lineState = .drivenHigh ∧
      (after (sending 4 3 0 .drivenHigh) (noneCycle true)).lineState = .idleHigh ∧
      (after (setLine .drivenLow fresh) (commandCycle (.receive 3))).lineState = .idleHigh ∧
      (after (sending 1 1 0 .drivenLow) (commandCycle .abort)).lineState = .idleHigh) ∧
    ((sending 1 1 0 .drivenLow).fsm ≠ .idle ∧ (commandCycle (.setOut true)).rst = false ∧
      writesCommand (commandCycle (.setOut true)) (.setOut true)) := by decide

theorem inv_receiving : Inv (receiving .rxWaitHigh 0 false 0 0 0) := by constructor <;> decide

theorem inv_delaying : Inv (receiving .rxDelay 1 true 0 9 0) := by constructor <;> decide

theorem inv_sending : Inv (sending 1 2 1 .drivenHigh) := by constructor <;> decide

theorem witness_LineStateTransitions_invariant_clauses :
    (Inv (receiving .rxWaitHigh 0 false 0 0 0) ∧ (receiving .rxWaitHigh 0 false 0 0 0).fsm = .rxWaitHigh) ∧
    (Inv (sending 1 2 1 .drivenHigh) ∧ (sending 1 2 1 .drivenHigh).fsm = .tx) :=
  ⟨⟨inv_receiving, rfl⟩, inv_sending, rfl⟩

theorem witness_SynchroniserDelaysTheWireTwoCycles :
    ((noneCycle false).rst = false ∧ clock fresh (noneCycle false) = .next (after fresh (noneCycle false)) ∧
      clock (after fresh (noneCycle false)) (noneCycle true) =
        .next (after (after fresh (noneCycle false)) (noneCycle true))) ∧
    (resetCycle.rst = true ∧ clock fresh resetCycle = .next (after fresh resetCycle) ∧
      clock (after fresh resetCycle) (noneCycle false) =
        .next (after (after fresh resetCycle) (noneCycle false))) :=
  ⟨⟨by decide, clock_after _ (by decide), clock_after _ (by decide)⟩,
    by decide, clock_after _ (by decide), clock_after _ (by decide)⟩

theorem witness_IdleBlockChangesOnlyItsSynchroniser :
    fresh.cfg.legal = true ∧ fresh.fsm = .idle ∧ quiet (readCycle 0x04) = true := by decide

theorem witness_OnlyTransfersMakeTheBlockBusy :
    fresh.cfg.legal = true ∧ busy fresh = false ∧ busy (after fresh (commandCycle (.send 32))) = true ∧
    busy (after fresh (commandCycle (.receive 0))) = true := by decide

theorem witness_EncodeIsTheFrameImage : 32 ≤ 32 ∧ 0 ≤ 32 := by decide

theorem witness_DecodeIsThePayload : 32 ≤ 32 ∧ 0 ≤ 32 := by decide

theorem witness_FrameCodecLaws :
    32 ≤ 32 ∧ (0xFFFFFFFF : Word).toNat < 2 ^ 32 ∧ (0 : Word).toNat < 2 ^ 0 ∧ 32 + 1 < 34 := by decide

theorem witness_TransmitterTakesItsStep :
    (sending 0 1 1 .drivenLow).cfg.legal = true ∧ calm (writeCycle 0x08 7 true) = true ∧ (sending 0 1 1 .drivenLow).fsm = .tx ∧
    busUpdate (sending 0 1 1 .drivenLow) (writeCycle 0x08 7 true) = .next (setTxdata 7 (sending 0 1 1 .drivenLow)) ∧
    (sending 0 1 1 .drivenLow).tcnt ≠ 0 ∧
    ((sending 0 1 0 .drivenLow).tcnt = 0 ∧ (sending 0 1 0 .drivenLow).phase = 1) ∧
    ((sending 0 2 0 .drivenLow).phase = 2 ∧ (sending 0 2 0 .drivenLow).cfg.p2Ticks = 1) ∧
    ((sending 4 3 0 .drivenHigh).phase ≠ 1 ∧ ¬ ((sending 4 3 0 .drivenHigh).phase = 2 ∧
      (sending 4 3 0 .drivenHigh).cfg.p2Ticks = 1) ∧
      (sending 4 3 0 .drivenHigh).bitidx.toNat + 1 = (sending 4 3 0 .drivenHigh).width.toNat + 2) ∧
    (sending 3 3 0 .drivenHigh).bitidx.toNat + 1 ≠ (sending 3 3 0 .drivenHigh).width.toNat + 2 :=
  ⟨by decide, by decide, rfl, rfl, by decide, by decide, by decide, by decide, by decide⟩

theorem witness_ReceiverWaitsForTheFallingEdge :
    (receiving .rxWaitHigh 0 false 0 0 0).cfg.legal = true ∧ calm (noneCycle true) = true ∧
    (receiving .rxWaitHigh 0 false 0 0 0).fsm = .rxWaitHigh ∧
    busUpdate (receiving .rxWaitHigh 0 false 0 0 0) (noneCycle true) = .next (receiving .rxWaitHigh 0 false 0 0 0) ∧
    (receiving .rxWaitHigh 0 false 0 0 0).sync2 = false ∧
    ((receiving .rxWaitHigh 0 true 0 9 0).sync2 = true ∧ (receiving .rxWaitHigh 0 true 0 9 0).cfg.timeoutCycles ≠ 0 ∧
      (receiving .rxWaitHigh 0 true 0 9 0).wdog.toNat = (receiving .rxWaitHigh 0 true 0 9 0).cfg.timeoutCycles - 1) ∧
    ((receiving .rxWaitHigh 0 true 0 8 0).sync2 = true ∧ ¬ ((receiving .rxWaitHigh 0 true 0 8 0).cfg.timeoutCycles ≠ 0 ∧
      (receiving .rxWaitHigh 0 true 0 8 0).wdog.toNat = (receiving .rxWaitHigh 0 true 0 8 0).cfg.timeoutCycles - 1)) :=
  ⟨by decide, by decide, rfl, rfl, rfl, by decide, by decide⟩

theorem witness_ReceiverSamplesAfterTheDelay :
    (Inv (receiving .rxDelay 1 true 0 9 0) ∧ calm (noneCycle true) = true ∧ (receiving .rxDelay 1 true 0 9 0).fsm = .rxDelay ∧
      busUpdate (receiving .rxDelay 1 true 0 9 0) (noneCycle true) = .next (receiving .rxDelay 1 true 0 9 0) ∧
      (receiving .rxDelay 1 true 0 9 0).tcnt = 0 ∧ (receiving .rxDelay 1 true 1 9 0).tcnt ≠ 0) ∧
    (Inv (receiving .rxWaitHigh 0 false 0 0 0) ∧ (receiving .rxWaitHigh 0 false 0 0 0).sync2 = false ∧
      (List.replicate 4 (noneCycle false)).length = sampleDelay (receiving .rxWaitHigh 0 false 0 0 0).cfg + 1 ∧
      (∀ i ∈ List.replicate 4 (noneCycle false), calm i = true)) :=
  ⟨⟨inv_delaying, by decide, rfl, rfl, rfl, by decide⟩, inv_receiving, rfl, by decide, by decide⟩

theorem witness_ReceiverEndsTheBit :
    (receiving .rxWaitLow 1 true 0 0 2).cfg.legal = true ∧ calm (noneCycle true) = true ∧
    (receiving .rxWaitLow 1 true 0 0 2).fsm = .rxWaitLow ∧
    busUpdate (receiving .rxWaitLow 1 true 0 0 2) (noneCycle true) = .next (receiving .rxWaitLow 1 true 0 0 2) ∧
    ((receiving .rxWaitLow 1 true 0 0 2).sync2 = true ∧
      (receiving .rxWaitLow 1 true 0 0 2).bitidx.toNat + 1 = (receiving .rxWaitLow 1 true 0 0 2).width.toNat + 2) ∧
    (receiving .rxWaitLow 0 true 0 0 0).bitidx.toNat + 1 ≠ (receiving .rxWaitLow 0 true 0 0 0).width.toNat + 2 ∧
    ((receiving .rxWaitLow 0 false 0 9 0).sync2 = false ∧ (receiving .rxWaitLow 0 false 0 9 0).cfg.timeoutCycles ≠ 0 ∧
      (receiving .rxWaitLow 0 false 0 9 0).wdog.toNat = (receiving .rxWaitLow 0 false 0 9 0).cfg.timeoutCycles - 1) ∧
    ¬ ((receiving .rxWaitLow 0 false 0 8 0).cfg.timeoutCycles ≠ 0 ∧
      (receiving .rxWaitLow 0 false 0 8 0).wdog.toNat = (receiving .rxWaitLow 0 false 0 8 0).cfg.timeoutCycles - 1) :=
  ⟨by decide, by decide, rfl, rfl, by decide, by decide, by decide, by decide⟩

theorem witness_AbortDiscardsTheSequencer :
    (sending 4 3 0 .drivenHigh).cfg.legal = true ∧ (sending 4 3 0 .drivenHigh).fsm ≠ .idle ∧
    (commandCycle .abort).rst = false ∧ writesCommand (commandCycle .abort) .abort := by decide

/-- s with these input ports listed as the coming cycles'. -/
def listing (s : State) (ins : List PortIn) : State := { s with inputs := ins }

/-- A SEND 0 at T = 2: 12 busy cycles, then one more, in which the host reads STATUS. -/
def sendRun : State := listing fresh (commandCycle (.send 0) :: (List.replicate 12 (noneCycle true) ++ [readCycle 0x04]))

theorem witness_SendDrivesTheWaveform :
    sendRun.cfg.legal = true ∧ sendRun.fsm = .idle ∧ (0 : BitVec 6).toNat ≤ sendRun.cfg.wmax ∧
    (commandCycle (.send 0)).rst = false ∧ writesCommand (commandCycle (.send 0)) (.send 0) ∧
    sendRun.inputs = commandCycle (.send 0) :: (List.replicate 12 (noneCycle true) ++ [readCycle 0x04] ++ []) ∧
    (List.replicate 12 (noneCycle true)).length = 3 * tickCycles sendRun.cfg * ((0 : BitVec 6).toNat + 2) ∧
    (∀ j ∈ List.replicate 12 (noneCycle true), calm j = true) ∧ (∀ j ∈ [readCycle 0x04], quiet j = true) := by decide

/-- The cycle that writes RECEIVE 0 to CMD, the wire at the given level. -/
def receiveCycle (line : Bool) : PortIn := writeCycle 0x00 (encode (.receive 0)) line

/-- The 11 + d cycles after the acceptance of a RECEIVE 0 whose start bit begins at index d at T = 2. -/
def pulse (d : Nat) : List PortIn :=
  (List.range (11 + d)).map fun k => noneCycle (wireWithFrame fresh.cfg (frameEncode 0 0) 0 d (k + 2))

/-- A RECEIVE 0 accepted from s, whose frame begins at index d. -/
def pulseRun (s : State) (d : Nat) (line : Bool) : State := listing s (receiveCycle line :: (pulse d ++ []))

/-- What a receiver with TIMEOUT_CYCLES = 10 holds when the frame has already begun at the acceptance. -/
def alreadyLow : State := { fresh with cfg := { frequencyHz := 150000, timeoutCycles := 10 }, sync1 := false }

/-- The premises of the statement that its timeout alternative leaves, for RECEIVE 0 and value 0. -/
abbrev AlignedPremises (s : State) (d : Nat) (line : Bool) : Prop :=
  s.cfg.legal = true ∧ s.fsm = .idle ∧ (0 : BitVec 6).toNat ≤ s.cfg.wmax ∧
    writesCommand (receiveCycle line) (.receive 0) ∧ s.inputs = receiveCycle line :: (pulse d ++ []) ∧
    (receiveCycle line :: pulse d).length =
      d + 3 * tickCycles s.cfg * ((0 : BitVec 6).toNat + 1) + sampleDelay s.cfg + 3 ∧
    (∀ j ∈ receiveCycle line :: pulse d, calm j = true) ∧
    s.sync1 = wireWithFrame s.cfg (frameEncode 0 (0 : BitVec 6).toNat) 0 d 0 ∧
    (receiveCycle line :: pulse d).map PortIn.lineI =
      (List.range (receiveCycle line :: pulse d).length).map
        (fun k => wireWithFrame s.cfg (frameEncode 0 (0 : BitVec 6).toNat) 0 d (k + 1)) ∧
    (∀ j ∈ receiveCycle line :: pulse d, ¬ writesRegister j 1)

/-- Without a timeout, the frame beginning at index 3. -/
theorem witness_AlignedReceiveDeliversThePayload :
    AlignedPremises (pulseRun fresh 3 true) 3 true ∧ (pulseRun fresh 3 true).cfg.timeoutCycles = 0 := by decide

/-- With a timeout, the frame beginning at index 0 and at index 9, the last that the timeout allows. -/
theorem witness_AlignedReceiveDeliversThePayload_timeout :
    AlignedPremises (pulseRun alreadyLow 0 false) 0 false ∧
    AlignedPremises (pulseRun { alreadyLow with sync1 := true } 9 true) 9 true ∧
    3 * tickCycles alreadyLow.cfg ≤ alreadyLow.cfg.timeoutCycles ∧ 9 < alreadyLow.cfg.timeoutCycles := by decide

/-- Five cycles of a High and of a Low wire, listed in a receiver that waits, without a timeout. -/
def waiting (f : Fsm) (level : Bool) : State :=
  listing { fresh with fsm := f, sync1 := level, sync2 := level } (List.replicate 5 (noneCycle level))

theorem witness_ReceiverWaitsWithoutBound :
    ((waiting .rxWaitHigh true).cfg.legal = true ∧ (waiting .rxWaitHigh true).cfg.timeoutCycles = 0 ∧
      (waiting .rxWaitHigh true).inputs = List.replicate 5 (noneCycle true) ++ [] ∧
      (waiting .rxWaitHigh true).sync1 = true ∧ (waiting .rxWaitHigh true).sync2 = true ∧
      ∀ j ∈ List.replicate 5 (noneCycle true), calm j = true ∧ j.lineI = true) ∧
    ((waiting .rxWaitLow false).cfg.legal = true ∧ (waiting .rxWaitLow false).cfg.timeoutCycles = 0 ∧
      (waiting .rxWaitLow false).inputs = List.replicate 5 (noneCycle false) ++ [] ∧
      (waiting .rxWaitLow false).sync1 = false ∧ (waiting .rxWaitLow false).sync2 = false ∧
      ∀ j ∈ List.replicate 5 (noneCycle false), calm j = true ∧ j.lineI = false) := by decide

/-- Ten cycles at one level, the first with the given bus ports: as long as the timeout of `receiving`. -/
def tenCycles (first : PortIn) : List PortIn := first :: List.replicate 9 (noneCycle first.lineI)

/-- The premises of the statement for a receiver that waits in the given state at the given level. -/
abbrev TimeoutPremises (f : Fsm) (l : Bool) (first : PortIn) : Prop :=
  (listing (receiving f 0 l 0 0 0) (tenCycles first)).cfg.legal = true ∧
    (receiving f 0 l 0 0 0).cfg.timeoutCycles ≠ 0 ∧ (receiving f 0 l 0 0 0).wdog = 0 ∧
    (f = .rxWaitHigh ∧ l = true ∨ f = .rxWaitLow ∧ l = false) ∧
    (receiving f 0 l 0 0 0).sync1 = l ∧ (receiving f 0 l 0 0 0).sync2 = l ∧
    (listing (receiving f 0 l 0 0 0) (tenCycles first)).inputs = tenCycles first ++ [] ∧
    (tenCycles first).length = (receiving f 0 l 0 0 0).cfg.timeoutCycles ∧
    ∀ j ∈ tenCycles first, calm j = true ∧ j.lineI = l

/-- Both wait states; a host that does nothing, one that clears DONE and one whose command is rejected. -/
theorem witness_ReceiveTimesOutAfterTimeoutCycles :
    (TimeoutPremises .rxWaitHigh true (noneCycle true) ∧ ∀ j ∈ tenCycles (noneCycle true), ¬ writesRegister j 1) ∧
    TimeoutPremises .rxWaitHigh true (writeCycle 0x04 0x10 true) ∧
    TimeoutPremises .rxWaitLow false (writeCycle 0x00 0x1 false) ∧
    (fresh.cfg.legal = true ∧ fresh.cfg.timeoutCycles = 0 ∧
      (after { fresh with tout := true } (noneCycle true)).tout = true) := by decide

/-- A RECEIVE 0 from reset on a wire that is Low, the shortest its delays allow: 10 cycles. -/
def shortReceive : State := listing fresh (receiveCycle true :: (List.replicate 9 (noneCycle false) ++ []))

theorem witness_ReceiveLastsAtLeastItsDelays :
    shortReceive.cfg.legal = true ∧ shortReceive.cfg.timeoutCycles = 0 ∧ shortReceive.fsm = .idle ∧
    (0 : BitVec 6).toNat ≤ shortReceive.cfg.wmax ∧ (receiveCycle true).rst = false ∧
    writesCommand (receiveCycle true) (.receive 0) ∧
    shortReceive.inputs = receiveCycle true :: (List.replicate 9 (noneCycle false) ++ []) ∧
    (∀ j ∈ List.replicate 9 (noneCycle false), calm j = true) ∧
    9 < ((0 : BitVec 6).toNat + 2) * (sampleDelay shortReceive.cfg + 2) := by decide

theorem witness_ResetReplacesEveryRegister :
    (sending 1 1 0 .drivenLow).cfg.legal = true ∧ resetCycle.rst = true := by decide

theorem witness_ParametersAreCheckedAndConstant :
    fresh.cfg.legal = true ∧ (State.resetWith { frequencyHz := 166667 }).cfg.legal = false := by decide

theorem witness_DerivedConstantsAreInRange :
    ({ frequencyHz := 1 } : Params).legal = true ∧ ({ frequencyHz := 166666 } : Params).legal = true := by decide

theorem witness_ResetSatisfiesTheInvariant : ({ frequencyHz := 1, timeoutCycles := 1 } : Params).legal = true := by decide

theorem witness_EveryStepKeepsTheInvariant :
    Inv (sending 1 2 1 .drivenHigh) ∧ ∃ t, step (sending 1 2 1 .drivenHigh) = .next t := by
  obtain ⟨u, hu⟩ := clock_answers (s := sending 1 2 1 .drivenHigh) (nextInput (sending 1 2 1 .drivenHigh)) (by decide)
  exact ⟨inv_sending, _, step_eq_next.2 ⟨u, hu, rfl⟩⟩

theorem witness_StepRunsTheDecodedCommand :
    fresh.cfg.legal = true ∧ (fresh.withFetchWord 32 0x31).inputs = writeCycle 0x00 0x31 true :: fresh.inputs ∧
    (writeCycle 0x00 0x31 true).rst = false ∧ (writeCycle 0x00 0x31 true).busOp = 2 ∧
    (writeCycle 0x00 0x31 true).busAddr.extractLsb' 2 3 = 0 ∧
    decode (writeCycle 0x00 0x31 true).busWdata = .cmd (.send 3) ∧
    exec (.send 3) (fresh.withFetchWord 32 0x31) = .next (txAccept 3 (fresh.withFetchWord 32 0x31)) :=
  ⟨by decide, rfl, rfl, rfl, by decide, by decide, rfl⟩

theorem pairClock_fresh (l m : LineState) :
    ∃ q, pairClock { a := setLine l fresh, b := setLine m fresh, fault := none, cycle := 0 } (noneCycle true)
      (noneCycle true) = .next q := ⟨_, rfl⟩

theorem witness_WireOfTwoEndpoints :
    ((pad .drivenLow).oe = true ∧ (pad .drivenLow).o = (pad .drivenLow).o) ∧
    (pad .drivenLow).o ≠ (pad .drivenHigh).o ∧ (pad .idleHigh).oe = false ∧ (pad .idleHigh).pu = true ∧
    ((pad .floatingInput).oe = false ∧ (pad .floatingInput).pu = false) ∧
    (∃ q, pairClock { a := setLine .drivenLow fresh, b := setLine .drivenHigh fresh, fault := none, cycle := 0 }
      (noneCycle true) (noneCycle true) = .next q) ∧
    (∃ q, pairClock { a := setLine .drivenLow fresh, b := setLine .idleHigh fresh, fault := none, cycle := 0 }
      (noneCycle true) (noneCycle true) = .next q) :=
  ⟨by decide, by decide, by decide, by decide, by decide, pairClock_fresh _ _, pairClock_fresh _ _⟩

theorem witness_EndpointsShareOnlyTheWire :
    pad (sending 1 1 0 .drivenLow).lineState = pad (setLine .drivenLow fresh).lineState ∧
    (∃ q, pairClock { a := setLine .drivenLow fresh, b := setLine .drivenLow fresh, fault := none, cycle := 0 }
      (noneCycle true) (noneCycle true) = .next q) ∧
    (∃ r, pairClock { a := setLine .drivenLow fresh, b := sending 1 1 0 .drivenLow, fault := none, cycle := 0 }
      (noneCycle true) (commandCycle .abort) = .next r) ∧
    (∃ r, pairClock { a := sending 1 1 0 .drivenLow, b := setLine .drivenLow fresh, fault := none, cycle := 0 }
      (commandCycle .abort) (noneCycle true) = .next r) :=
  ⟨by decide, pairClock_fresh _ _, ⟨_, rfl⟩, ⟨_, rfl⟩⟩

theorem witness_PseudoInstructionsExpand : fresh.fsm = .idle ∧ (sending 0 1 1 .drivenLow).fsm ≠ .idle := by decide

end Sys2Proof.Tests
end

section
/-!
PROOFS of the family 00_scope.md: the parameters (R7) and the constants derived from them (R8).
-/

namespace Sys2Proof.Machine

/-! ### The ranges of the parameters (00 R7) -/

theorem legal_iff (p : Params) :
    p.legal = true ↔
      (1 ≤ p.frequencyHz ∧ p.frequencyHz ≤ 166666) ∧ (1 ≤ p.wmax ∧ p.wmax ≤ 32) ∧
      (p.p2Ticks = 1 ∨ p.p2Ticks = 2) ∧ p.timeoutCycles ≤ 2 ^ 32 - 1 := by
  simp only [Params.legal, Params.frequencyOk, Params.wmaxOk, Params.p2TicksOk, Params.timeoutOk, Bool.and_eq_true,
    Bool.or_eq_true, decide_eq_true_eq, beq_iff_eq, and_assoc]

/-! ### What a step does to the parameters (00 R7) -/

theorem exec_cfg {c : Instr} {s t : State} (h : exec c s = .next t) : t.cfg = s.cfg := by
  by_cases hs : s.fsm = .idle
  · rcases exec_idle_next hs h with ⟨rfl, -⟩ | ⟨-, rfl⟩ | ⟨_, -, -, rfl⟩ | ⟨_, -, -, rfl⟩ | ⟨_, -, rfl⟩ | ⟨_, -, rfl⟩ |
      ⟨_, -, -, rfl⟩ | ⟨_, -, -, rfl⟩ | ⟨-, -, rfl⟩ | ⟨-, -, rfl⟩ <;> simp
  · rcases exec_busy_next hs h with ⟨-, rfl⟩ | ⟨-, rfl⟩ | ⟨-, -, rfl⟩ <;> simp

theorem cmdWrite_cfg {s b : State} {v : Word} (h : cmdWrite s v = .next b) : b.cfg = s.cfg := by
  rcases cmdWrite_next h with ⟨e, -, rfl⟩ | ⟨c, -, hexec⟩
  · exact raiseCmdErr_cfg _ s
  · exact exec_cfg hexec

theorem busUpdate_cfg {s b : State} {i : PortIn} (h : busUpdate s i = .next b) : b.cfg = s.cfg := by
  rcases busUpdate_next h with ⟨rfl, -⟩ | ⟨-, hcmd⟩ | ⟨-, rfl⟩ | ⟨-, rfl⟩
  · rfl
  · exact cmdWrite_cfg hcmd
  · exact clearFlags_cfg _ s
  · exact setTxdata_cfg _ s

@[simp] theorem seqUpdate_cfg (s b : State) : (seqUpdate s b).cfg = b.cfg := (seqUpdate_frame s b).1

@[simp] theorem finishCycle_cfg (s b : State) (i : PortIn) : (finishCycle s i b).cfg = b.cfg := by
  unfold finishCycle
  split <;> simp

theorem clock_cfg {s t : State} {i : PortIn} (h : clock s i = .next t) : t.cfg = s.cfg := by
  obtain ⟨-, ⟨-, rfl⟩ | ⟨-, b, hbus, rfl⟩⟩ := clock_eq_next.1 h
  · exact toReset_cfg s
  · exact (finishCycle_cfg s b i).trans (busUpdate_cfg hbus)

theorem step_cfg {s t : State} (h : step s = .next t) : t.cfg = s.cfg := by
  obtain ⟨u, hclock, rfl⟩ := step_eq_next.1 h
  exact (passCycle_cfg u).trans (clock_cfg hclock)

theorem step_answers {s : State} (h : s.cfg.legal = true) : ∃ t, step s = .next t := by
  obtain ⟨u, hclock⟩ := clock_answers (nextInput s) h
  exact ⟨passCycle u, step_eq_next.2 ⟨u, hclock, rfl⟩⟩

theorem clock_refuses_of_illegal {s : State} (i : PortIn) (h : s.cfg.legal = false) :
    clock s i = .refused .illegalConfiguration := by
  simp [clock, h]

theorem step_refuses_of_illegal {s : State} (h : s.cfg.legal = false) : step s = .refused .illegalConfiguration := by
  rw [step, clock_refuses_of_illegal _ h]
  rfl

/-- Settles O47: the ranges are `legal_iff`, and the step inherits its answer and its parameters from the clock cycle. -/
theorem parametersAreCheckedAndConstant : Obligations.ParametersAreCheckedAndConstant := by
  refine ⟨legal_iff, fun s hillegal => step_refuses_of_illegal hillegal, fun s hlegal => ?_, fun f => rfl⟩
  obtain ⟨t, hstep⟩ := step_answers hlegal
  exact ⟨t, hstep, step_cfg hstep⟩

/-! ### The derived constants (00 R8) -/

/-- FREQUENCY_HZ ≤ 166666 is what makes a tick at least two cycles (92 D22). -/
theorem two_le_tickCycles {p : Params} (h : p.legal = true) : 2 ≤ tickCycles p := by
  obtain ⟨⟨hmin, hmax⟩, -⟩ := (legal_iff p).1 h
  rw [tickCycles, Nat.le_div_iff_mul_le (by omega)]
  omega

theorem tickCycles_le {p : Params} (h : p.legal = true) : tickCycles p ≤ 333333 := by
  obtain ⟨⟨hmin, -⟩, -⟩ := (legal_iff p).1 h
  rw [tickCycles, ← Nat.lt_succ_iff, Nat.div_lt_iff_lt_mul (by omega)]
  omega

theorem three_le_sampleDelay {p : Params} (h : p.legal = true) : 3 ≤ sampleDelay p := by
  have htick := two_le_tickCycles h
  unfold sampleDelay
  omega

theorem sampleDelay_le {p : Params} (h : p.legal = true) : sampleDelay p ≤ 499999 := by
  have htick := tickCycles_le h
  unfold sampleDelay
  omega

theorem tickCycles_le_sampleDelay (p : Params) : tickCycles p ≤ sampleDelay p := by
  unfold sampleDelay
  omega

theorem sampleDelay_lt_two_ticks {p : Params} (h : p.legal = true) : sampleDelay p < 2 * tickCycles p := by
  have htick := two_le_tickCycles h
  unfold sampleDelay
  omega

/-- The sample lands before phase 2 ends, P2_TICKS ticks after phase 1 (42 R80). -/
theorem sampleDelay_lt_phase_end {p : Params} (h : p.legal = true) :
    sampleDelay p < (1 + p.p2Ticks) * tickCycles p := by
  obtain ⟨-, -, hp2, -⟩ := (legal_iff p).1 h
  have hticks : 2 ≤ 1 + p.p2Ticks := by omega
  calc sampleDelay p < 2 * tickCycles p := sampleDelay_lt_two_ticks h
    _ ≤ (1 + p.p2Ticks) * tickCycles p := Nat.mul_le_mul_right _ hticks

/-- Settles O48: the formulas are the definitions, and the ranges follow from 2 ≤ TICK_CYCLES ≤ 333333. -/
theorem derivedConstantsAreInRange : Obligations.DerivedConstantsAreInRange := fun p hlegal =>
  ⟨rfl, two_le_tickCycles hlegal, tickCycles_le hlegal,
    rfl, three_le_sampleDelay hlegal, sampleDelay_le hlegal,
    rfl, rfl,
    tickCycles_le_sampleDelay p, Nat.le_sub_one_of_lt (sampleDelay_lt_two_ticks hlegal),
    Nat.le_sub_one_of_lt (sampleDelay_lt_phase_end hlegal)⟩

end Sys2Proof.Machine
end

section
/-!
PROOFS of the family 10_state.md: the outputs (R31), the words of STATUS and INFO (R24, R26), when the block is busy
(R20), and the life of the sticky flags (R25, R27).
-/

namespace Sys2Proof.Machine

/-! ### The outputs of a cycle (10 R31) -/

theorem outputs_busRdata_of_read {i : PortIn} (s : State) (h : busKind i.busOp = .read) :
    (outputs s i).busRdata = readValue s i.busAddr := by
  simp [outputs, h]

theorem outputs_busRdata_of_not_read {i : PortIn} (s : State) (h : busKind i.busOp ≠ .read) :
    (outputs s i).busRdata = 0 := by
  cases hkind : busKind i.busOp
  case read => exact absurd hkind h
  all_goals simp [outputs, hkind]

/-- Settles O27: `bus_rdata` is decided by the kind of the bus operation, and no output mentions `line_i`. -/
theorem outputsFollowTheState : Obligations.OutputsFollowTheState := fun s _ _ =>
  ⟨rfl, fun hread => outputs_busRdata_of_read s ((busKind_eq_read _).2 hread),
    fun hother => outputs_busRdata_of_not_read s (mt (busKind_eq_read _).1 hother), rfl⟩

/-! ### The fields of STATUS and INFO (10 R24, R26) -/

section WordFields

open BitVec

/-- A field above the rightmost part of a word is a field of the rest of the word. -/
theorem extractLsb'_append_skip {v w start len : Nat} {hi : BitVec v} {lo : BitVec w} {x : BitVec len}
    (hle : w ≤ start) (h : extractLsb' (start - w) len hi = x) : extractLsb' start len (hi ++ lo) = x :=
  (extractLsb'_append_eq_of_le hle).trans h

/-- Each field, once the fields to its right are skipped, is the rightmost part. -/
theorem statusWord_fields (s : State) :
    (statusWord s).extractLsb' 0 1 = BitVec.ofBool (busy s) ∧
    (statusWord s).extractLsb' 1 2 = lineCode s.lineState ∧
    (statusWord s).extractLsb' 3 1 = BitVec.ofBool s.sync2 ∧
    (statusWord s).extractLsb' 4 1 = BitVec.ofBool s.done ∧
    (statusWord s).extractLsb' 5 1 = BitVec.ofBool s.ferr ∧
    (statusWord s).extractLsb' 6 1 = BitVec.ofBool s.tout ∧
    (statusWord s).extractLsb' 7 1 = BitVec.ofBool s.cerr ∧
    (statusWord s).extractLsb' 8 1 = BitVec.ofBool s.abrt ∧
    (statusWord s).extractLsb' 9 3 = fsmCode s.fsm ∧
    (statusWord s).extractLsb' 12 6 = s.bitidx ∧
    (statusWord s).extractLsb' 18 3 = s.ecause ∧
    (statusWord s).extractLsb' 21 11 = 0 := by
  unfold statusWord
  refine ⟨?_, ?_, ?_, ?_, ?_, ?_, ?_, ?_, ?_, ?_, ?_, ?_⟩ <;> repeat refine extractLsb'_append_skip (by decide) ?_
  case refine_12 => exact extractLsb'_eq_self
  all_goals exact extractLsb'_append_eq_right

theorem infoWord_fields (p : Params) :
    (infoWord p).extractLsb' 0 6 = BitVec.ofNat 6 p.wmax ∧
    (infoWord p).extractLsb' 6 2 = 0 ∧
    (infoWord p).extractLsb' 8 2 = BitVec.ofNat 2 p.p2Ticks ∧
    (infoWord p).extractLsb' 10 2 = 0 ∧
    (infoWord p).extractLsb' 12 4 = BitVec.ofNat 4 syncStages ∧
    (infoWord p).extractLsb' 16 16 = 0 := by
  unfold infoWord
  refine ⟨?_, ?_, ?_, ?_, ?_, ?_⟩ <;> repeat refine extractLsb'_append_skip (by decide) ?_
  case refine_6 => exact extractLsb'_eq_self
  all_goals exact extractLsb'_append_eq_right

end WordFields

/-- After reset only LINE is 1, whatever the parameters. -/
theorem statusWord_resetWith (p : Params) : statusWord (State.resetWith p) = 0x00000008 := by
  simp [statusWord, State.resetWith, lineCode, fsmCode, busy]

/-- Settles O17: the fields are `statusWord_fields`, their codes the model's. -/
theorem statusWordHasItsFields : Obligations.StatusWordHasItsFields := by
  refine ⟨fun s => ?_, statusWord_resetWith⟩
  obtain ⟨hbusy, hline, hlevel, hdone, hferr, htout, hcerr, habrt, hfsm, hrest⟩ := statusWord_fields s
  refine ⟨hbusy.trans ?_, hline.trans ?_, hlevel, hdone, hferr, htout, hcerr, habrt, hfsm.trans ?_, hrest⟩
  · unfold busy
    cases s.fsm <;> rfl
  · cases s.lineState <;> rfl
  · cases s.fsm <;> rfl

/-! ### The constant registers (10 R26) -/

@[simp] theorem readValue_tick (s : State) : readValue s 0x10 = BitVec.ofNat 32 (tickCycles s.cfg) := rfl
@[simp] theorem readValue_sample (s : State) : readValue s 0x14 = BitVec.ofNat 32 (sampleDelay s.cfg) := rfl
@[simp] theorem readValue_timeout (s : State) : readValue s 0x18 = BitVec.ofNat 32 s.cfg.timeoutCycles := rfl
@[simp] theorem readValue_info (s : State) : readValue s 0x1C = infoWord s.cfg := rfl

theorem toNat_ofNat_of_lt {n w : Nat} (h : n < 2 ^ w) : (BitVec.ofNat w n).toNat = n :=
  (BitVec.toNat_ofNat n w).trans (Nat.mod_eq_of_lt h)

/-- Settles O18: each constant fits its register, by the ranges of the parameters (00 R7, R8). -/
theorem constantRegistersReadTheParameters : Obligations.ConstantRegistersReadTheParameters := by
  refine ⟨fun s hlegal => ?_, fun s hwmax hp2 => ?_⟩
  · obtain ⟨-, ⟨-, hwmax⟩, hp2, htimeout⟩ := (legal_iff s.cfg).1 hlegal
    have htick := tickCycles_le hlegal
    have hsample := sampleDelay_le hlegal
    obtain ⟨hw, hgap6, hp, hgap10, hsync, hgap16⟩ := infoWord_fields s.cfg
    simp only [readValue_info, readValue_tick, readValue_sample, readValue_timeout]
    refine ⟨?_, hgap6, ?_, hgap10, ?_, hgap16, ?_, ?_, ?_⟩
    · rw [hw, toNat_ofNat_of_lt (by omega)]
    · rw [hp, toNat_ofNat_of_lt (by omega)]
    · rw [hsync]; rfl
    · exact toNat_ofNat_of_lt (by omega : tickCycles s.cfg < 2 ^ 32)
    · exact toNat_ofNat_of_lt (by omega : sampleDelay s.cfg < 2 ^ 32)
    · exact toNat_ofNat_of_lt (by omega)
  · rw [readValue_info, infoWord, hwmax, hp2]
    rfl

/-! ### The cycle of an idle block, and of a block that is not written (10 R20, R30) -/

theorem abortWins_of_not_writesCmd {s : State} {i : PortIn} (h : ¬ writesRegister i 0) : abortWins s i = false :=
  Bool.eq_false_iff.2 fun hwins => h ((abortWins_eq_true s i).1 hwins).2.1

theorem finishCycle_of_no_abort {s : State} {i : PortIn} (h : abortWins s i = false) (b : State) :
    finishCycle s i b = shiftSync s.sync1 i.lineI (seqUpdate s b) := by
  simp [finishCycle, h]

/-- The sequencer of an idle block assigns nothing. -/
theorem finishCycle_idle {s : State} (h : s.fsm = .idle) (i : PortIn) (b : State) :
    finishCycle s i b = shiftSync s.sync1 i.lineI b := by
  simp [finishCycle, seqUpdate_idle h]

/-- A cycle without a WRITE is the sequencer's and the synchroniser's alone (20 R34). -/
theorem clock_of_not_write {s : State} {i : PortIn} (h : busKind i.busOp ≠ .write) :
    clock s i = if s.cfg.legal then
        if i.rst then .next (toReset s) else .next (shiftSync s.sync1 i.lineI (seqUpdate s s))
      else .refused .illegalConfiguration := by
  have hfinish := finishCycle_of_no_abort (abortWins_of_not_writesCmd (s := s) fun hcmd => h hcmd.1) s
  simp only [clock, busUpdate_of_not_write h, mapNext_next, hfinish]

/-- A READ changes no register and sets no flag (10 R27, 20 R34). -/
theorem clock_read_eq_none (s : State) (i : PortIn) : clock s { i with busOp := 1 } = clock s { i with busOp := 0 } := by
  rw [clock_of_not_write (i := { i with busOp := 1 }) nofun,
    clock_of_not_write (i := { i with busOp := 0 }) nofun]

/-- A command leaves an idle block idle, unless it is a SEND or RECEIVE that fits (10 R20). -/
theorem exec_idle_fsm {c : Instr} {s t : State} (hs : s.fsm = .idle) (h : exec c s = .next t) :
    t.fsm = .idle ∨ ∃ w : BitVec 6, w.toNat ≤ s.cfg.wmax ∧
      ((c = .send w ∧ t.fsm = .tx) ∨ (c = .receive w ∧ t.fsm = .rxWaitHigh)) := by
  rcases exec_idle_next hs h with ⟨rfl, -⟩ | ⟨-, rfl⟩ | ⟨w, hc, hw, rfl⟩ | ⟨w, hc, hw, rfl⟩ | ⟨_, -, rfl⟩ | ⟨_, -, rfl⟩ |
    ⟨_, -, -, rfl⟩ | ⟨_, -, -, rfl⟩ | ⟨-, -, rfl⟩ | ⟨-, -, rfl⟩
  · exact .inl hs
  · exact .inl hs
  · exact .inr ⟨w, hw, .inl ⟨hc, rfl⟩⟩
  · exact .inr ⟨w, hw, .inr ⟨hc, rfl⟩⟩
  all_goals exact .inl hs

/-- The bus operation of an idle block leaves it idle, unless it writes a SEND or RECEIVE that fits (10 R20). -/
theorem busUpdate_idle_fsm {s b : State} {i : PortIn} (hs : s.fsm = .idle) (h : busUpdate s i = .next b) :
    b.fsm = .idle ∨ ∃ w : BitVec 6, w.toNat ≤ s.cfg.wmax ∧
      ((writesCommand i (.send w) ∧ b.fsm = .tx) ∨ (writesCommand i (.receive w) ∧ b.fsm = .rxWaitHigh)) := by
  rcases busUpdate_next h with ⟨rfl, -⟩ | ⟨hreg, hcmd⟩ | ⟨-, rfl⟩ | ⟨-, rfl⟩
  · exact .inl hs
  · rcases cmdWrite_next hcmd with ⟨e, -, rfl⟩ | ⟨c, hdecode, hexec⟩
    · exact .inl hs
    · rcases exec_idle_fsm hs hexec with hidle | ⟨w, hw, ⟨rfl, hfsm⟩ | ⟨rfl, hfsm⟩⟩
      · exact .inl hidle
      · exact .inr ⟨w, hw, .inl ⟨⟨hreg, hdecode⟩, hfsm⟩⟩
      · exact .inr ⟨w, hw, .inr ⟨⟨hreg, hdecode⟩, hfsm⟩⟩
  · exact .inl hs
  · exact .inl hs

/-- Settles O32: in an idle block the cycle's `fsm` is what the bus operation left. -/
theorem onlyTransfersMakeTheBlockBusy : Obligations.OnlyTransfersMakeTheBlockBusy := by
  refine ⟨busy_eq_true, fun s t i hclock hidle hbusy => ?_⟩
  rw [busy_eq_false] at hidle
  rw [busy_eq_true] at hbusy
  obtain ⟨-, ⟨-, rfl⟩ | ⟨-, b, hbus, rfl⟩⟩ := clock_eq_next.1 hclock
  · exact absurd (toReset_fsm s) hbusy
  · rw [finishCycle_idle hidle] at hbusy ⊢
    exact (busUpdate_idle_fsm hidle hbus).resolve_left hbusy

end Sys2Proof.Machine
end

section
/-!
PROOFS of the family 10_state.md, the sticky flags (R25, R27): what sets and what clears each of them, and that nothing
else of the block depends on them.
-/

namespace Sys2Proof.Machine

/-! ### The flags as one part of the state (10 R24) -/

/-- The sticky flags of STATUS, and ERR_CAUSE (10 R24). -/
structure Flags where
  done : Bool
  ferr : Bool
  tout : Bool
  cerr : Bool
  abrt : Bool
  ecause : BitVec 3

def flagsOf (s : State) : Flags where
  done := s.done
  ferr := s.ferr
  tout := s.tout
  cerr := s.cerr
  abrt := s.abrt
  ecause := s.ecause

/-- s with the flags replaced, every other register kept. -/
def withFlags (g : Flags) (s : State) : State :=
  { s with done := g.done, ferr := g.ferr, tout := g.tout, cerr := g.cerr, abrt := g.abrt, ecause := g.ecause }

@[simp] theorem withFlags_flagsOf (s : State) : withFlags (flagsOf s) s = s := rfl

@[simp] theorem flagsOf_withFlags (g : Flags) (s : State) : flagsOf (withFlags g s) = g := rfl

/-- The flags a write of v to STATUS leaves (10 R25). -/
def clearedBy (v : Word) (g : Flags) : Flags where
  done := g.done && !v.getLsbD 4
  ferr := g.ferr && !v.getLsbD 5
  tout := g.tout && !v.getLsbD 6
  cerr := g.cerr && !v.getLsbD 7
  abrt := g.abrt && !v.getLsbD 8
  ecause := if v.getLsbD 7 then 0 else g.ecause

theorem clearFlags_eq_withFlags (v : Word) (s : State) : clearFlags v s = withFlags (clearedBy v (flagsOf s)) s := rfl

/-! ### What the sequencer does to the flags (42 R76, 43 R82 to R86) -/

/-- The cycle ends the last phase of the stop bit of a SEND (42 R76). -/
abbrev SendCompletes (s : State) : Prop :=
  s.fsm = .tx ∧ s.tcnt = 0 ∧ s.phase ≠ 1 ∧ ¬ (s.phase = 2 ∧ s.cfg.p2Ticks = 1) ∧ lastBit s = true

/-- The line has returned to High after the last sample of a RECEIVE (43 R84, R85). -/
abbrev ReceiveCompletes (s : State) : Prop := s.fsm = .rxWaitLow ∧ lineS s = true ∧ lastBit s = true

/-- A RECEIVE waits for a level the line does not have, and its timeout is due (43 R82, R84, R86). -/
abbrev ReceiveTimesOut (s : State) : Prop :=
  timeoutDue s = true ∧ ((s.fsm = .rxWaitHigh ∧ lineS s = true) ∨ (s.fsm = .rxWaitLow ∧ lineS s = false))

/-- The flags after the sequencer's cycle from s, over flags g: the sequencer sets flags and clears none. -/
def setBySequencer (s : State) (g : Flags) : Flags :=
  { g with
    done := g.done || decide (SendCompletes s ∨ ReceiveCompletes s)
    ferr := g.ferr || (decide (ReceiveCompletes s) && framingBad s.rxsh s.width.toNat)
    tout := g.tout || decide (ReceiveTimesOut s) }

theorem txStep_withFlags {s : State} (hs : s.fsm = .tx) (g : Flags) (t : State) :
    txStep s (withFlags g t) = withFlags (setBySequencer s g) (txStep s t) := by
  unfold txStep
  split_ifs <;> simp_all [setBySequencer, withFlags, release, startLowPhase]

theorem rxWaitHighStep_withFlags {s : State} (hs : s.fsm = .rxWaitHigh) (g : Flags) (t : State) :
    rxWaitHighStep s (withFlags g t) = withFlags (setBySequencer s g) (rxWaitHighStep s t) := by
  unfold rxWaitHighStep
  split_ifs <;> simp_all [setBySequencer, withFlags, release, rxTimeout]

theorem rxDelayStep_withFlags {s : State} (hs : s.fsm = .rxDelay) (g : Flags) (t : State) :
    rxDelayStep s (withFlags g t) = withFlags (setBySequencer s g) (rxDelayStep s t) := by
  unfold rxDelayStep
  split_ifs <;> simp_all [setBySequencer, withFlags]

theorem rxWaitLowStep_withFlags {s : State} (hs : s.fsm = .rxWaitLow) (g : Flags) (t : State) :
    rxWaitLowStep s (withFlags g t) = withFlags (setBySequencer s g) (rxWaitLowStep s t) := by
  unfold rxWaitLowStep
  split_ifs <;> simp_all [setBySequencer, withFlags, release, rxTimeout, rxComplete]

/-- The sequencer reads no flag, and sets exactly those of its events. -/
theorem seqUpdate_withFlags (s t : State) (g : Flags) :
    seqUpdate s (withFlags g t) = withFlags (setBySequencer s g) (seqUpdate s t) := by
  unfold seqUpdate
  split
  case h_1 hs => simp [setBySequencer, withFlags, hs]
  case h_2 hs => exact txStep_withFlags hs g t
  case h_3 hs => exact rxWaitHighStep_withFlags hs g t
  case h_4 hs => exact rxDelayStep_withFlags hs g t
  case h_5 hs => exact rxWaitLowStep_withFlags hs g t

theorem flagsOf_seqUpdate (s t : State) : flagsOf (seqUpdate s t) = setBySequencer s (flagsOf t) :=
  congrArg flagsOf (seqUpdate_withFlags s t (flagsOf t))

theorem flagsOf_finishCycle (s b : State) (i : PortIn) :
    flagsOf (finishCycle s i b) = if abortWins s i then flagsOf b else setBySequencer s (flagsOf b) := by
  unfold finishCycle
  split
  · rfl
  · exact flagsOf_seqUpdate s b

/-- Settles O22: the cycle's registers beside the flags do not depend on them (`seqUpdate_withFlags`), and the flags are
those the sequencer sets over those the write leaves. -/
theorem statusWriteClearsWhatTheSequencerDoesNotSet : Obligations.StatusWriteClearsWhatTheSequencerDoesNotSet := by
  intro s u q i hrst hwrite hnone hq
  have hlegal : s.cfg.legal = true := (clock_eq_next.1 hnone).1
  have hu : u = shiftSync s.sync1 i.lineI (seqUpdate s s) := by
    rw [clock_of_not_write (i := { i with busOp := 0 }) nofun, if_pos hlegal, if_neg (by simp [hrst]), next_inj] at hnone
    exact hnone
  have hbus : busUpdate s i = .next (clearFlags i.busWdata s) := by
    simp [busUpdate_of_write hwrite.1, registerWrite, hwrite.2]
  have habort : abortWins s i = false := abortWins_of_not_writesCmd (by simp [hwrite.2])
  have hq' : flagsOf q = setBySequencer s { flagsOf s with done := false, ferr := false, tout := false } := by
    rw [hq]
    exact flagsOf_seqUpdate s _
  have hdone : q.done = decide (SendCompletes s ∨ ReceiveCompletes s) := congrArg Flags.done hq'
  have hferr : q.ferr = (decide (ReceiveCompletes s) && framingBad s.rxsh s.width.toNat) := congrArg Flags.ferr hq'
  have htout : q.tout = decide (ReceiveTimesOut s) := congrArg Flags.tout hq'
  refine clock_eq_next.2 ⟨hlegal, .inr ⟨hrst, _, hbus, ?_⟩⟩
  rw [finishCycle_of_no_abort habort, clearFlags_eq_withFlags, seqUpdate_withFlags, hu, hdone, hferr, htout,
    Bool.or_comm _ (s.done && _), Bool.or_comm _ (s.ferr && _), Bool.or_comm _ (s.tout && _)]
  rfl

/-! ### What a bus operation does to the flags (10 R25, 44 R94, R97) -/

/-- Everything a command can do to the flags. -/
theorem exec_flags {c : Instr} {s t : State} (h : exec c s = .next t) :
    flagsOf t = flagsOf s ∨ (∃ k, t = raiseCmdErr k s) ∨ (c = .abort ∧ s.fsm ≠ .idle ∧ t = abortRunning s) := by
  by_cases hs : s.fsm = .idle
  · rcases exec_idle_next hs h with ⟨rfl, -⟩ | ⟨-, rfl⟩ | ⟨_, -, -, rfl⟩ | ⟨_, -, -, rfl⟩ | ⟨_, -, rfl⟩ | ⟨_, -, rfl⟩ |
      ⟨_, -, -, rfl⟩ | ⟨_, -, -, rfl⟩ | ⟨-, -, rfl⟩ | ⟨-, -, rfl⟩
    exacts [.inl rfl, .inr (.inl ⟨4, rfl⟩), .inl rfl, .inl rfl, .inl rfl, .inl rfl, .inl rfl, .inr (.inl ⟨5, rfl⟩),
      .inl rfl, .inr (.inl ⟨6, rfl⟩)]
  · rcases exec_busy_next hs h with ⟨-, rfl⟩ | ⟨rfl, rfl⟩ | ⟨-, -, rfl⟩
    exacts [.inl rfl, .inr (.inr ⟨rfl, hs, rfl⟩), .inr (.inl ⟨3, rfl⟩)]

/-- Everything a bus operation can do to the flags. -/
theorem busUpdate_flags {s b : State} {i : PortIn} (h : busUpdate s i = .next b) :
    (flagsOf b = flagsOf s ∧ ¬ writesRegister i 1) ∨
    (writesRegister i 1 ∧ b = clearFlags i.busWdata s) ∨
    (writesRegister i 0 ∧ ∃ k, b = raiseCmdErr k s ∧ cmdWrite s i.busWdata = .next (raiseCmdErr k s)) ∨
    (writesCommand i .abort ∧ s.fsm ≠ .idle ∧ b = abortRunning s) := by
  rcases busUpdate_next h with ⟨rfl, hnot⟩ | ⟨hreg, hcmd⟩ | ⟨hreg, hb⟩ | ⟨hreg, rfl⟩
  · exact .inl ⟨rfl, fun hstatus => hnot (.inr (.inl hstatus))⟩
  · have hnot : ¬ writesRegister i 1 := by simp [hreg.2]
    rcases cmdWrite_next hcmd with ⟨e, -, rfl⟩ | ⟨c, hdecode, hexec⟩
    · exact .inr (.inr (.inl ⟨hreg, _, rfl, hcmd⟩))
    · rcases exec_flags hexec with hsame | ⟨k, rfl⟩ | ⟨rfl, hbusy, rfl⟩
      · exact .inl ⟨hsame, hnot⟩
      · exact .inr (.inr (.inl ⟨hreg, k, rfl, hcmd⟩))
      · exact .inr (.inr (.inr ⟨⟨hreg, hdecode⟩, hbusy, rfl⟩))
  · exact .inr (.inl ⟨hreg, hb⟩)
  · exact .inl ⟨rfl, by simp [hreg.2]⟩

/-- A bus operation changes DONE, FRAME_ERR and TIMEOUT only by their write-one-to-clear bits. -/
theorem busUpdate_sequencerFlags {s b : State} {i : PortIn} (h : busUpdate s i = .next b) :
    (b.done = true ↔ s.done = true ∧ ¬ (writesRegister i 1 ∧ i.busWdata.getLsbD 4 = true)) ∧
    (b.ferr = true ↔ s.ferr = true ∧ ¬ (writesRegister i 1 ∧ i.busWdata.getLsbD 5 = true)) ∧
    (b.tout = true ↔ s.tout = true ∧ ¬ (writesRegister i 1 ∧ i.busWdata.getLsbD 6 = true)) := by
  rcases busUpdate_flags h with ⟨hsame, hnot⟩ | ⟨hreg, rfl⟩ | ⟨hreg, k, rfl, -⟩ | ⟨⟨hreg, -⟩, -, rfl⟩
  · have hdone : b.done = s.done := congrArg Flags.done hsame
    have hferr : b.ferr = s.ferr := congrArg Flags.ferr hsame
    have htout : b.tout = s.tout := congrArg Flags.tout hsame
    have hclear : ∀ k, ¬ (writesRegister i 1 ∧ i.busWdata.getLsbD k = true) := fun k hwrite => hnot hwrite.1
    simp only [hdone, hferr, htout, hclear, not_false_eq_true, and_true, and_self]
  · simp [hreg]
  · simp [hreg.2]
  · simp [hreg.2]

/-- CMD_ERR and ERR_CAUSE change by a rejected word and by bit 7 of a STATUS write (10 R25, 44 R94). -/
theorem busUpdate_errorRecord {s b : State} {i : PortIn} (h : busUpdate s i = .next b) :
    (s.cerr = false → b.cerr = true →
      writesRegister i 0 ∧ cmdWrite s i.busWdata = .next (raiseCmdErr b.ecause s)) ∧
    (s.cerr = true → b.cerr = false → writesRegister i 1 ∧ i.busWdata.getLsbD 7 = true) ∧
    (b.ecause ≠ s.ecause → (writesRegister i 1 ∧ i.busWdata.getLsbD 7 = true) ∨
      (writesRegister i 0 ∧ cmdWrite s i.busWdata = .next (raiseCmdErr b.ecause s))) := by
  rcases busUpdate_flags h with ⟨hsame, -⟩ | ⟨hreg, rfl⟩ | ⟨hreg, k, rfl, hcmd⟩ | ⟨-, -, rfl⟩
  · have hcerr : b.cerr = s.cerr := congrArg Flags.cerr hsame
    have hecause : b.ecause = s.ecause := congrArg Flags.ecause hsame
    simp_all
  · exact ⟨fun hold hnew => by simp [hold] at hnew, fun hold hnew => ⟨hreg, by simpa [hold] using hnew⟩,
      fun hchanged => .inl ⟨hreg, by_contra fun hbit => hchanged (if_neg hbit)⟩⟩
  · exact ⟨fun _ _ => ⟨hreg, hcmd⟩, by simp, fun _ => .inr ⟨hreg, hcmd⟩⟩
  · simp_all

/-- ABORTED changes by an ABORT while busy and by bit 8 of a STATUS write (10 R25, 44 R97). -/
theorem busUpdate_abrt {s b : State} {i : PortIn} (h : busUpdate s i = .next b) :
    (s.abrt = false → b.abrt = true → s.fsm ≠ .idle ∧ writesCommand i .abort) ∧
    (s.abrt = true → b.abrt = false → writesRegister i 1 ∧ i.busWdata.getLsbD 8 = true) := by
  rcases busUpdate_flags h with ⟨hsame, -⟩ | ⟨hreg, rfl⟩ | ⟨-, k, rfl, -⟩ | ⟨habort, hbusy, rfl⟩
  · have habrt : b.abrt = s.abrt := congrArg Flags.abrt hsame
    simp_all
  · exact ⟨fun hold hnew => by simp [hold] at hnew, fun hold hnew => ⟨hreg, by simpa [hold] using hnew⟩⟩
  · simp_all
  · exact ⟨fun _ _ => ⟨hbusy, habort⟩, by simp⟩

/-! ### What a clock cycle does to the flags (10 R27) -/

/-- A flag that is what a clearing left of it, or set by an event, is cleared and set by these two alone. -/
theorem flag_events {old new : Bool} {cleared set : Prop} (h : new = true ↔ (old = true ∧ ¬ cleared) ∨ set) :
    (old = false → new = true → set) ∧ (old = true → new = false → cleared) := by
  constructor
  · rintro rfl hnew
    simpa using h.1 hnew
  · rintro rfl rfl
    by_contra hkept
    exact Bool.false_ne_true (h.2 (.inl ⟨rfl, hkept⟩))

theorem finishCycle_done (s b : State) (i : PortIn) :
    (finishCycle s i b).done = true ↔
      b.done = true ∨ (abortWins s i = false ∧ (SendCompletes s ∨ ReceiveCompletes s)) := by
  have h : (finishCycle s i b).done = _ := congrArg Flags.done (flagsOf_finishCycle s b i)
  rw [h]
  cases abortWins s i <;> simp [setBySequencer, flagsOf, -Bool.decide_or]

theorem finishCycle_ferr (s b : State) (i : PortIn) :
    (finishCycle s i b).ferr = true ↔
      b.ferr = true ∨
        (abortWins s i = false ∧ ReceiveCompletes s ∧ framingBad s.rxsh s.width.toNat = true) := by
  have h : (finishCycle s i b).ferr = _ := congrArg Flags.ferr (flagsOf_finishCycle s b i)
  rw [h]
  cases abortWins s i <;> simp [setBySequencer, flagsOf, and_assoc]

theorem finishCycle_tout (s b : State) (i : PortIn) :
    (finishCycle s i b).tout = true ↔ b.tout = true ∨ (abortWins s i = false ∧ ReceiveTimesOut s) := by
  have h : (finishCycle s i b).tout = _ := congrArg Flags.tout (flagsOf_finishCycle s b i)
  rw [h]
  cases abortWins s i <;> simp [setBySequencer, flagsOf]

/-- The sequencer sets neither CMD_ERR with its cause nor ABORTED. -/
theorem finishCycle_hostFlags (s b : State) (i : PortIn) :
    (finishCycle s i b).cerr = b.cerr ∧ (finishCycle s i b).ecause = b.ecause ∧ (finishCycle s i b).abrt = b.abrt := by
  unfold finishCycle
  split
  · exact ⟨rfl, rfl, rfl⟩
  · obtain ⟨-, -, -, -, -, -, hcerr, habrt, hecause, -⟩ := seqUpdate_frame s b
    exact ⟨hcerr, hecause, habrt⟩

/-- A completed transfer ends in IDLE and IDLE_HIGH (42 R76, 43 R85). -/
theorem finishCycle_of_completes {s : State} {i : PortIn} (ha : abortWins s i = false)
    (h : SendCompletes s ∨ ReceiveCompletes s) (b : State) :
    (finishCycle s i b).fsm = .idle ∧ (finishCycle s i b).lineState = .idleHigh := by
  rw [finishCycle_of_no_abort ha]
  rcases h with ⟨hfsm, htcnt, hphase1, hphase2, hlast⟩ | ⟨hfsm, hline, hlast⟩
  · have hstep : txStep s b = release { b with bitidx := s.bitidx + 1, done := true } := by
      rw [txStep, if_neg (not_not.2 htcnt), if_neg hphase1, if_neg hphase2, if_pos hlast]
    simp [seqUpdate, hfsm, hstep]
  · simp [seqUpdate, rxWaitLowStep, hfsm, hline, hlast]

theorem framingBad_iff (b : Image) (w : Nat) :
    framingBad b w = true ↔ b.getLsbD 0 = true ∨ b.getLsbD (w + 1) = false := by
  simp [framingBad]

/-- A transfer completes in the last frame bit, a SEND at the end of its last phase, a RECEIVE with the line High. -/
theorem completes_iff (s : State) :
    (SendCompletes s ∨ ReceiveCompletes s) ↔
      s.bitidx.toNat + 1 = s.width.toNat + 2 ∧
        ((s.fsm = .tx ∧ s.tcnt = 0 ∧ s.phase ≠ 1 ∧ ¬ (s.phase = 2 ∧ s.cfg.p2Ticks = 1)) ∨
          (s.fsm = .rxWaitLow ∧ s.sync2 = true)) := by
  rw [← lastBit_iff]
  simp only [SendCompletes, ReceiveCompletes, lineS]
  tauto

/-! ### No command reads a flag (10 R27) -/

/-- s without its flags. -/
abbrev eraseFlags (s : State) : State := withFlags ⟨false, false, false, false, false, 0⟩ s

theorem whenIdle_eraseFlags (g : Flags) (s : State) {k m : Result} (h : mapNext eraseFlags k = mapNext eraseFlags m) :
    mapNext eraseFlags (whenIdle (withFlags g s) k) = mapNext eraseFlags (whenIdle s m) := by
  by_cases hs : s.fsm = .idle
  · rw [whenIdle_idle (s := withFlags g s) hs, whenIdle_idle hs, h]
  · rw [whenIdle_busy (s := withFlags g s) hs, whenIdle_busy hs]
    rfl

theorem whenFits_eraseFlags (w : BitVec 6) (g : Flags) (s : State) {k m : Result}
    (h : mapNext eraseFlags k = mapNext eraseFlags m) :
    mapNext eraseFlags (whenFits w (withFlags g s) k) = mapNext eraseFlags (whenFits w s m) := by
  by_cases hw : w.toNat ≤ s.cfg.wmax
  · rw [whenFits_le (s := withFlags g s) hw, whenFits_le hw, h]
  · rw [whenFits_gt (s := withFlags g s) (not_le.1 hw), whenFits_gt (not_le.1 hw)]
    rfl

theorem exec_eraseFlags (c : Instr) (g : Flags) (s : State) :
    mapNext eraseFlags (exec c (withFlags g s)) = mapNext eraseFlags (exec c s) := by
  cases c with
  | nop => rfl
  | send w => exact whenIdle_eraseFlags g s (whenFits_eraseFlags w g s rfl)
  | receive w => exact whenIdle_eraseFlags g s (whenFits_eraseFlags w g s rfl)
  | setOut l => exact whenIdle_eraseFlags g s rfl
  | setIn p => exact whenIdle_eraseFlags g s rfl
  | write l =>
    refine whenIdle_eraseFlags g s ?_
    change mapNext eraseFlags (if outputMode s.lineState = true then _ else _) = _
    split <;> rfl
  | read =>
    refine whenIdle_eraseFlags g s ?_
    change mapNext eraseFlags (if inputMode s.lineState = true then _ else _) = _
    split <;> rfl
  | abort =>
    change mapNext eraseFlags (if busy s = true then _ else _) = mapNext eraseFlags (if busy s = true then _ else _)
    split <;> rfl

/-- Settles O24: a cycle is a reset, which sets no flag, or the bus operation with the sequencer after it, and each
flag is read off what these two do to it. -/
theorem flagsChangeOnlyByTheirEvents : Obligations.FlagsChangeOnlyByTheirEvents := by
  refine ⟨fun s t i hclock => ?_, clock_read_eq_none, fun c s d f o e a k => exec_eraseFlags c ⟨d, f, o, e, a, k⟩ s⟩
  obtain ⟨-, ⟨hrst, rfl⟩ | ⟨hrst, b, hbus, rfl⟩⟩ := clock_eq_next.1 hclock
  · simp [hrst]
  obtain ⟨hdone, hferr, htout⟩ := busUpdate_sequencerFlags hbus
  obtain ⟨hcerr, hecause, habrt⟩ := finishCycle_hostFlags s b i
  obtain ⟨doneSet, doneCleared⟩ := flag_events ((finishCycle_done s b i).trans (or_congr_left hdone))
  obtain ⟨ferrSet, ferrCleared⟩ := flag_events ((finishCycle_ferr s b i).trans (or_congr_left hferr))
  obtain ⟨toutSet, toutCleared⟩ := flag_events ((finishCycle_tout s b i).trans (or_congr_left htout))
  obtain ⟨cerrSet, cerrCleared, ecauseChanged⟩ := busUpdate_errorRecord hbus
  obtain ⟨abrtSet, abrtCleared⟩ := busUpdate_abrt hbus
  rw [hcerr, hecause, habrt]
  refine ⟨fun hold hnew => ?_, fun hold hnew => ?_, fun hold hnew => ?_, fun hold hnew => ?_, abrtSet,
    fun hold hnew => .inr (doneCleared hold hnew), fun hold hnew => .inr (ferrCleared hold hnew),
    fun hold hnew => .inr (toutCleared hold hnew), fun hold hnew => .inr (cerrCleared hold hnew),
    fun hold hnew => .inr (abrtCleared hold hnew), fun hchanged => .inr (ecauseChanged hchanged)⟩
  · obtain ⟨hlive, hcompletes⟩ := doneSet hold hnew
    obtain ⟨hlast, hphase⟩ := (completes_iff s).1 hcompletes
    obtain ⟨hfsm, hline⟩ := finishCycle_of_completes hlive hcompletes b
    exact ⟨hlive, hlast, hfsm, hline, hphase⟩
  · obtain ⟨hlive, ⟨hfsm, hlevel, hlast⟩, hbad⟩ := ferrSet hold hnew
    exact ⟨hlive, hfsm, hlevel, (lastBit_iff s).1 hlast, (framingBad_iff _ _).1 hbad⟩
  · obtain ⟨hlive, hdue, hwait⟩ := toutSet hold hnew
    obtain ⟨htimeout, hwdog⟩ := (timeoutDue_iff s).1 hdue
    exact ⟨hlive, htimeout, hwdog, hwait⟩
  · obtain ⟨hreg, hreject⟩ := cerrSet hold hnew
    exact ⟨hreg, b.ecause, rfl, hreject⟩

end Sys2Proof.Machine
end

section
/-!
PROOFS of the family 20_memory.md: the register window (R33, R34, R35) and the wire of two endpoints (R47).
-/

namespace Sys2Proof.Machine

/-! ### The register window sees only the register number (20 R33) -/

/-- A byte offset within a word does not reach the register number. -/
theorem registerIndex_wordAddress (k : Nat) {j : Nat} (hj : j < 4) :
    registerIndex (BitVec.ofNat 5 (4 * k + j)) = BitVec.ofNat 3 k := by
  apply BitVec.eq_of_toNat_eq
  simp only [registerIndex, BitVec.extractLsb'_toNat, BitVec.toNat_ofNat, Nat.shiftRight_eq_div_pow]
  omega

theorem readValue_congr (s : State) {a a' : BusAddr} (h : registerIndex a = registerIndex a') :
    readValue s a = readValue s a' := by
  simp only [readValue, h]

theorem registerWrite_congr (s : State) (v : Word) {a a' : BusAddr} (h : registerIndex a = registerIndex a') :
    registerWrite s a v = registerWrite s a' v := by
  simp only [registerWrite, h]

/-- Settles O20: reads and writes see an address through its register number alone. -/
theorem addressesOfAWordReachOneRegister : Obligations.AddressesOfAWordReachOneRegister := by
  intro s v k j _ hj
  have hsame : registerIndex (BitVec.ofNat 5 (4 * k + j)) = registerIndex (BitVec.ofNat 5 (4 * k)) :=
    (registerIndex_wordAddress k hj).trans (registerIndex_wordAddress k (j := 0) (by decide)).symm
  exact ⟨registerIndex_wordAddress k hj, readValue_congr s hsame, registerWrite_congr s v hsame⟩

/-! ### Reads (20 R34): with `readValue_tick` to `readValue_info`, the value at each word's own address -/

@[simp] theorem readValue_cmd (s : State) : readValue s 0x00 = 0 := rfl
@[simp] theorem readValue_status (s : State) : readValue s 0x04 = statusWord s := rfl
@[simp] theorem readValue_txdata (s : State) : readValue s 0x08 = s.txdata := rfl
@[simp] theorem readValue_rxdata (s : State) : readValue s 0x0C = s.rxdata := rfl

/-- Settles O19: a read is the read at its word's own address, and the cycle of a READ is that of a NONE. -/
theorem readsReturnTheRegisterAndChangeNothing : Obligations.ReadsReturnTheRegisterAndChangeNothing := by
  refine ⟨fun s a => ?_, fun s i hread => outputs_busRdata_of_read s ((busKind_eq_read _).2 hread), clock_read_eq_none⟩
  have hvalue {a' : BusAddr} {x : Word} (hx : readValue s a' = x) (h : registerIndex a = registerIndex a') :
      readValue s a = x := (readValue_congr s h).trans hx
  exact ⟨hvalue (readValue_cmd s), hvalue (readValue_status s), hvalue (readValue_txdata s),
    hvalue (readValue_rxdata s), hvalue (readValue_tick s), hvalue (readValue_sample s),
    hvalue (readValue_timeout s), hvalue (readValue_info s)⟩

/-! ### Writes (20 R35) -/

@[simp] theorem registerWrite_cmd (s : State) (v : Word) : registerWrite s 0x00 v = cmdWrite s v := rfl
@[simp] theorem registerWrite_status (s : State) (v : Word) : registerWrite s 0x04 v = .next (clearFlags v s) := rfl
@[simp] theorem registerWrite_txdata (s : State) (v : Word) : registerWrite s 0x08 v = .next (setTxdata v s) := rfl

/-- A write to a read-only register, RXDATA to INFO, is ignored. -/
theorem registerWrite_readOnly (s : State) (v : Word) {a : BusAddr} (h : 3 ≤ (registerIndex a).toNat) :
    registerWrite s a v = .next s := by
  unfold registerWrite
  split
  case h_4 => rfl
  all_goals omega

/-- Settles O21: a WRITE is the write at its word's own address. -/
theorem busWritesReachTheirRegister : Obligations.BusWritesReachTheirRegister := by
  intro s i
  have hwrite (hop : i.busOp = 2) : busUpdate s i = registerWrite s i.busAddr i.busWdata :=
    busUpdate_of_write ((busKind_eq_write _).2 hop)
  have hreach {a' : BusAddr} {r : Result} (hr : registerWrite s a' i.busWdata = r) (hop : i.busOp = 2)
      (h : registerIndex i.busAddr = registerIndex a') : busUpdate s i = r :=
    (hwrite hop).trans ((registerWrite_congr s _ h).trans hr)
  exact ⟨hreach (registerWrite_cmd s _), hreach (registerWrite_status s _), hreach (registerWrite_txdata s _),
    fun hop hreadOnly => (hwrite hop).trans (registerWrite_readOnly s _ hreadOnly),
    fun hop => busUpdate_of_not_write (mt (busKind_eq_write _).1 hop)⟩

/-! ### The wire of two endpoints (20 R47) -/

theorem wireState_both_alike {a b : PadOut} (ha : a.oe = true) (hb : b.oe = true) (ho : a.o = b.o) :
    wireState a b = .level a.o := by
  simp [wireState, ha, hb, ho]

theorem wireState_both_differ {a b : PadOut} (ha : a.oe = true) (hb : b.oe = true) (ho : a.o ≠ b.o) :
    wireState a b = .contention := by
  simp [wireState, ha, hb, ho]

theorem wireState_a_drives {a b : PadOut} (ha : a.oe = true) (hb : b.oe = false) : wireState a b = .level a.o := by
  simp [wireState, ha, hb]

theorem wireState_b_drives {a b : PadOut} (ha : a.oe = false) (hb : b.oe = true) : wireState a b = .level b.o := by
  simp [wireState, ha, hb]

theorem wireState_undriven {a b : PadOut} (ha : a.oe = false) (hb : b.oe = false) :
    wireState a b = if a.pu || b.pu then .level true else .floating := by
  simp [wireState, ha, hb]

/-- Everything a cycle of the pair can do: a cycle of each block on the wire's level, and the record. -/
theorem pairClock_next {p q : Pair} {ia ib : PortIn} (h : pairClock p ia ib = .next q) :
    clock p.a { ia with lineI := wireLevel p.cycle (pairWire p) } = .next q.a ∧
    clock p.b { ib with lineI := wireLevel p.cycle (pairWire p) } = .next q.b ∧
    q.fault = recordFault (pairWire p) p.fault ∧ q.cycle = p.cycle + 1 := by
  unfold pairClock at h
  split at h
  case h_1 a b ha hb =>
    cases h
    exact ⟨ha, hb, rfl, rfl⟩
  all_goals cases h

/-- The first synchroniser stage takes the wire's level in every cycle without reset (40 R60). -/
theorem clock_sync1 {s t : State} {i : PortIn} (h : clock s i = .next t) (hrst : i.rst = false) : t.sync1 = i.lineI := by
  obtain ⟨-, ⟨hreset, -⟩ | ⟨-, b, -, rfl⟩⟩ := clock_eq_next.1 h
  · rw [hrst] at hreset
    cases hreset
  · exact shiftSync_sync1 _ _ _

theorem recordFault_eq_contention_iff (w : WireState) (f : Option Fault) :
    recordFault w f = some .contention ↔ w = .contention ∨ f = some .contention := by
  cases w <;> simp [recordFault]

/-- CONTENTION is the one fault there is. -/
theorem eq_contention_of_ne_none {f : Option Fault} (h : f ≠ none) : f = some .contention := by
  obtain ⟨⟨⟩, hf⟩ := Option.ne_none_iff_exists'.1 h
  exact hf

/-- Settles O52: both ends take the one `wireLevel` into sync1, and the record grows by CONTENTION only. -/
theorem wireOfTwoEndpoints : Obligations.WireOfTwoEndpoints := by
  refine ⟨fun a b => ?_, fun p q ia ib hrstA hrstB hpair => ?_, fun p q ia ib hpair => ?_⟩
  · refine ⟨wireState_both_alike, wireState_both_differ, wireState_a_drives, wireState_b_drives,
      fun ha hb hpull => ?_, fun ha hb hpullA hpullB => ?_⟩
    · simp [wireState_undriven ha hb, hpull]
    · simp [wireState_undriven ha hb, hpullA, hpullB]
  · obtain ⟨hclockA, hclockB, -, -⟩ := pairClock_next hpair
    have hsyncA := clock_sync1 hclockA hrstA
    have hsyncB := clock_sync1 hclockB hrstB
    exact ⟨hsyncA.trans hsyncB.symm, fun l hlevel => hsyncA.trans (congrArg (wireLevel p.cycle) hlevel)⟩
  · obtain ⟨-, -, hfault, -⟩ := pairClock_next hpair
    have hrecord := recordFault_eq_contention_iff (pairWire p) p.fault
    rw [← hfault] at hrecord
    refine ⟨fun hcontention => hrecord.2 (.inl hcontention), fun hkept => hrecord.2 (.inr hkept), fun hnone hnew => ?_⟩
    exact (hrecord.1 (eq_contention_of_ne_none hnew)).resolve_right (by simp [hnone])

end Sys2Proof.Machine
end

section
/-!
PROOFS of the family 30_encoding.md: the command word (R48, R50), its decoder (R52) and the pseudo-instructions of the
host programs (R55).
-/

namespace Sys2Proof

/-! ### A word is the fields it is cut into (30 R48) -/

section CommandFields

open BitVec

theorem ofBool_argField (c : Word) : ofBool (argField c) = c.extractLsb' 10 1 := by
  ext i hi
  obtain rfl : i = 0 := by omega
  simp [argField]

/-- ARG and WIDTH side by side: the bits that a command without operands leaves unused. -/
theorem argField_append_widthField (c : Word) : ofBool (argField c) ++ widthField c = c.extractLsb' 4 7 := by
  rw [ofBool_argField]
  exact extractLsb'_append_extractLsb'_eq_extractLsb' (by decide : 10 = 4 + 6)

/-- A word with RES = 0 is the command word of its other three fields: its fields join up from the left. -/
theorem commandWord_fields {c : Word} (hres : resField c = 0) :
    commandWord (argField c) (widthField c) (opField c) = c := by
  have hjoin := @extractLsb'_append_extractLsb'_eq_extractLsb' 32
  calc commandWord (argField c) (widthField c) (opField c)
      = c.extractLsb' 11 21 ++ c.extractLsb' 10 1 ++ c.extractLsb' 4 6 ++ c.extractLsb' 0 4 := by
        rw [commandWord, ofBool_argField, ← hres]; rfl
    _ = c.extractLsb' 10 22 ++ c.extractLsb' 4 6 ++ c.extractLsb' 0 4 := by rw [hjoin (by decide : 11 = 10 + 1)]
    _ = c.extractLsb' 4 28 ++ c.extractLsb' 0 4 := by rw [hjoin (by decide : 10 = 4 + 6)]
    _ = c.extractLsb' 0 32 := hjoin (by decide : 4 = 0 + 4)
    _ = c := extractLsb'_eq_self

/-- A command word as 30 R50 writes it: the fields shifted to their places. -/
theorem commandWord_eq_or (arg : Bool) (w : BitVec 6) (op : BitVec 4) :
    commandWord arg w op = ((ofBool arg).setWidth 32 <<< 10) ||| (w.setWidth 32 <<< 4) ||| op.setWidth 32 := by
  refine (setWidth_eq _).symm.trans (setWidth_append_append_append_eq_shiftLeft_setWidth_or.trans ?_)
  simp

end CommandFields

/-! ### The words of the opcode map (30 R50) -/

theorem commandWord_width (w : BitVec 6) (op : BitVec 4) :
    commandWord false w op = op.setWidth 32 ||| (w.setWidth 32 <<< 4) := by
  simp [commandWord_eq_or, BitVec.or_comm]

theorem commandWord_arg (arg : Bool) (op : BitVec 4) :
    commandWord arg 0 op = op.setWidth 32 ||| ((BitVec.ofBool arg).setWidth 32 <<< 10) := by
  simp [commandWord_eq_or, BitVec.or_comm]

/-! ### The checks of the decoder, one after the other (30 R52) -/

theorem decode_of_reserved {c : Word} (hop : 8 ≤ (opField c).toNat) : decode c = .bad .reservedOpcode :=
  if_pos hop

theorem decode_of_res {c : Word} (hop : (opField c).toNat < 8) (hres : resField c ≠ 0) :
    decode c = .bad .fieldNotZero :=
  (if_neg (Nat.not_le.2 hop)).trans (if_pos hres)

/-- With RES = 0, each opcode below 8 has its command, unless a field it does not use is set. -/
theorem decode_of_opcode {c : Word} (hres : resField c = 0) :
    (opField c = 0 → decode c = cmdUnless (widthField c != 0 || argField c) .nop) ∧
    (opField c = 1 → decode c = cmdUnless (argField c) (.send (widthField c))) ∧
    (opField c = 2 → decode c = cmdUnless (argField c) (.receive (widthField c))) ∧
    (opField c = 3 → decode c = cmdUnless (widthField c != 0) (.setOut (argField c))) ∧
    (opField c = 4 → decode c = cmdUnless (widthField c != 0) (.setIn (argField c))) ∧
    (opField c = 5 → decode c = cmdUnless (widthField c != 0) (.write (argField c))) ∧
    (opField c = 6 → decode c = cmdUnless (widthField c != 0 || argField c) .read) ∧
    (opField c = 7 → decode c = cmdUnless (widthField c != 0 || argField c) .abort) := by
  refine ⟨?_, ?_, ?_, ?_, ?_, ?_, ?_, ?_⟩ <;> intro hop <;> simp [decode, hop, hres]

theorem cmdUnless_eq_cmd {unusedSet : Bool} {i j : Instr} :
    cmdUnless unusedSet i = .cmd j ↔ unusedSet = false ∧ i = j := by
  cases unusedSet <;> simp [cmdUnless]

theorem cmdUnless_ne_zero {w : Nat} (f : BitVec w) (i : Instr) :
    cmdUnless (f != 0) i = if f = 0 then .cmd i else .bad .fieldNotZero := by
  by_cases hf : f = 0 <;> simp [cmdUnless, hf]

/-- WIDTH and ARG are both unused exactly when the seven bits they make up are. -/
theorem operandBits_ne_zero (c : Word) : (widthField c != 0 || argField c) = (c.extractLsb' 4 7 != 0) := by
  rw [← argField_append_widthField]
  generalize widthField c = w
  generalize argField c = arg
  revert arg w
  decide

theorem opcode_cases {op : BitVec 4} (h : op.toNat < 8) :
    op = 0 ∨ op = 1 ∨ op = 2 ∨ op = 3 ∨ op = 4 ∨ op = 5 ∨ op = 6 ∨ op = 7 := by
  revert op
  decide

/-- A word that decodes has passed the first two checks. -/
theorem fields_of_decode {c : Word} {i : Instr} (h : decode c = .cmd i) : (opField c).toNat < 8 ∧ resField c = 0 := by
  have hop : (opField c).toNat < 8 := by
    by_contra hreserved
    simp [decode_of_reserved (Nat.not_lt.1 hreserved)] at h
  refine ⟨hop, ?_⟩
  by_contra hres
  simp [decode_of_res hop hres] at h

/-- A word that decodes is the one word of its command: its fields are the command's, the unused ones 0. -/
theorem eq_encode_of_decode {c : Word} {i : Instr} (h : decode c = .cmd i) : c = encode i := by
  obtain ⟨hlt, hres⟩ := fields_of_decode h
  have hcommand {unusedSet : Bool} {j : Instr} (hdecode : decode c = cmdUnless unusedSet j)
      (hword : unusedSet = false → commandWord (argField c) (widthField c) (opField c) = encode j) :
      c = encode i := by
    obtain ⟨hunused, rfl⟩ := cmdUnless_eq_cmd.1 (hdecode.symm.trans h)
    exact (commandWord_fields hres).symm.trans (hword hunused)
  obtain ⟨hnop, hsend, hreceive, hsetOut, hsetIn, hwrite, hread, habort⟩ := decode_of_opcode hres
  rcases opcode_cases hlt with hop | hop | hop | hop | hop | hop | hop | hop
  · exact hcommand (hnop hop) (by simp +contextual [encode, opcode, hop])
  · exact hcommand (hsend hop) (by simp +contextual [encode, opcode, hop])
  · exact hcommand (hreceive hop) (by simp +contextual [encode, opcode, hop])
  · exact hcommand (hsetOut hop) (by simp +contextual [encode, opcode, hop])
  · exact hcommand (hsetIn hop) (by simp +contextual [encode, opcode, hop])
  · exact hcommand (hwrite hop) (by simp +contextual [encode, opcode, hop])
  · exact hcommand (hread hop) (by simp +contextual [encode, opcode, hop])
  · exact hcommand (habort hop) (by simp +contextual [encode, opcode, hop])

/-- Settles O2: the checks in their order are `decode_of_reserved`, `decode_of_res` and `decode_of_opcode`, and a
command has one word. -/
theorem decodeClassifiesEveryWord : Obligations.DecodeClassifiesEveryWord := by
  refine ⟨fun c => decode_of_reserved, fun c => decode_of_res, fun c hres => ?_, rfl, rfl, fun c c' i h h' =>
    (eq_encode_of_decode h).trans (eq_encode_of_decode h').symm⟩
  have hclauses := decode_of_opcode hres
  simp only [operandBits_ne_zero, cmdUnless_ne_zero] at hclauses
  exact hclauses

/-- Settles O4: each word is a `commandWord` with at most one operand, and no reserved opcode passes the first check. -/
theorem commandWordsOfTheOpcodeMap : Obligations.CommandWordsOfTheOpcodeMap := by
  refine ⟨by decide, fun w => commandWord_width w _, fun w => commandWord_width w _, fun l => commandWord_arg l _,
    fun p => commandWord_arg p _, fun l => commandWord_arg l _, by decide, by decide, fun c hop i h => ?_⟩
  exact absurd (fields_of_decode h).1 (Nat.not_lt.2 hop)

end Sys2Proof

namespace Sys2Proof.Machine

/-! ### What a host does in the cycle of a due line (30 R54, R55) -/

section DueLine

variable {n : Nat} {at? : Option Nat} (s : State) (rest : List TimedLine)

theorem hostCycle_sync (hdue : at?.getD 0 ≤ n) :
    hostCycle n s ({ at? := at?, line := .sync } :: rest) = (.write cmdAddr (encode (.send 0)), rest) :=
  if_neg (Nat.not_lt.2 hdue)

theorem hostCycle_syncWait (hdue : at?.getD 0 ≤ n) :
    hostCycle n s ({ at? := at?, line := .syncWait } :: rest) = (.write cmdAddr (encode (.receive 0)), rest) :=
  if_neg (Nat.not_lt.2 hdue)

theorem hostCycle_tx (hdue : at?.getD 0 ≤ n) (v : Word) (w : BitVec 6) :
    hostCycle n s ({ at? := at?, line := .tx v w } :: rest) =
      (.write txdataAddr v, { at? := none, line := .command (.send w) } :: rest) :=
  if_neg (Nat.not_lt.2 hdue)

theorem hostCycle_clr (hdue : at?.getD 0 ≤ n) (m : Word) :
    hostCycle n s ({ at? := at?, line := .clr m } :: rest) = (.write statusAddr m, rest) :=
  if_neg (Nat.not_lt.2 hdue)

/-- The bit POLL looks at is BUSY, bit 0 of STATUS (10 R24). -/
theorem readValue_status_busy : (readValue s statusAddr).getLsbD 0 = busy s := by
  obtain ⟨hbusy, -⟩ := statusWord_fields s
  have hbit : (statusWord s).getLsbD 0 = busy s := by simpa using congrArg (BitVec.getLsbD · 0) hbusy
  exact (congrArg (BitVec.getLsbD · 0) (readValue_status s)).trans hbit

/-- POLL stays until the read that shows BUSY = 0. -/
theorem hostCycle_poll (hdue : at?.getD 0 ≤ n) :
    hostCycle n s ({ at? := at?, line := .poll } :: rest) =
      (.read statusAddr, if busy s then { at? := at?, line := .poll } :: rest else rest) := by
  rw [← readValue_status_busy]
  exact if_neg (Nat.not_lt.2 hdue)

end DueLine

/-- Settles O53: a line without `@n:` is due in every cycle; 0x1 and 0x2 are the words of SEND 0 and RECEIVE 0. -/
theorem pseudoInstructionsExpand : Obligations.PseudoInstructionsExpand := by
  intro n s rest v w
  have hdue : (none : Option Nat).getD 0 ≤ n := Nat.zero_le n
  have hpoll := hostCycle_poll s rest hdue
  refine ⟨hostCycle_sync s rest hdue, hostCycle_syncWait s rest hdue, hostCycle_tx s rest hdue v w, fun hbusy => ?_,
    fun hidle => ?_, hostCycle_clr s rest hdue v⟩
  · rwa [(busy_eq_true s).2 hbusy] at hpoll
  · rwa [(busy_eq_false s).2 hidle] at hpoll

end Sys2Proof.Machine
end

section
/-!
PROOFS of the family 40_line_driver.md: the pad outputs (R57), the transition relation of line_state (R59) and the
synchroniser (R60).
-/

namespace Sys2Proof.Machine

/-- Settles O28: the table is the definition of `pad`. -/
theorem padOutputsOfTheLineStates : Obligations.PadOutputsOfTheLineStates := ⟨rfl, rfl, rfl, rfl⟩

/-! ### The synchroniser (40 R60) -/

theorem clock_of_reset {s t : State} {i : PortIn} (h : clock s i = .next t) (hrst : i.rst = true) : t = toReset s := by
  obtain ⟨-, ⟨-, ht⟩ | ⟨hlive, -⟩⟩ := clock_eq_next.1 h
  · exact ht
  · simp [hrst] at hlive

theorem clock_of_no_reset {s t : State} {i : PortIn} (h : clock s i = .next t) (hrst : i.rst = false) :
    ∃ b, busUpdate s i = .next b ∧ t = finishCycle s i b := by
  obtain ⟨-, ⟨hreset, -⟩ | ⟨-, hcycle⟩⟩ := clock_eq_next.1 h
  · simp [hrst] at hreset
  · exact hcycle

/-- The second synchroniser stage takes what the first one held. -/
theorem clock_sync2 {s t : State} {i : PortIn} (h : clock s i = .next t) (hrst : i.rst = false) : t.sync2 = s.sync1 := by
  obtain ⟨b, -, rfl⟩ := clock_of_no_reset h hrst
  exact shiftSync_sync2 _ _ _

/-- Neither the bus operation nor the sequencer reads line_i; the synchroniser puts it into sync1. -/
theorem clock_lineI {s t : State} {i : PortIn} (l : Bool) (h : clock s i = .next t) (hrst : i.rst = false) :
    clock s { i with lineI := l } = .next { t with sync1 := l } := by
  obtain ⟨hlegal, -⟩ := clock_eq_next.1 h
  obtain ⟨b, hbus, rfl⟩ := clock_of_no_reset h hrst
  exact clock_eq_next.2 ⟨hlegal, .inr ⟨hrst, b, hbus, rfl⟩⟩

/-- Settles O30: `clock_sync1` and `clock_sync2` one after the other; a reset puts 1 into both stages. -/
theorem synchroniserDelaysTheWireTwoCycles : Obligations.SynchroniserDelaysTheWireTwoCycles := by
  refine ⟨fun s t u i j hi hj ht hu => ?_, fun s t u i j hi hj ht hu => ?_, fun s t i l hi ht => clock_lineI l ht hi⟩
  · exact ⟨clock_sync1 ht hi, clock_sync2 ht hi, (clock_sync2 hu hj).trans (clock_sync1 ht hi)⟩
  · obtain rfl := clock_of_reset ht hi
    exact ⟨toReset_sync2 s, (clock_sync2 hu hj).trans (toReset_sync1 s)⟩

/-! ### What moves line_state: the bus operation (40 R59) -/

/-- Of all bus operations only a command can move the line. -/
theorem busUpdate_line_moved {s b : State} {i : PortIn} (h : busUpdate s i = .next b)
    (hmoved : b.lineState ≠ s.lineState) : ∃ c, writesCommand i c ∧ exec c s = .next b := by
  rcases busUpdate_next h with ⟨rfl, -⟩ | ⟨hreg, hcmd⟩ | ⟨-, rfl⟩ | ⟨-, rfl⟩
  · exact absurd rfl hmoved
  · rcases cmdWrite_next hcmd with ⟨e, -, rfl⟩ | ⟨c, hdecode, hexec⟩
    · exact absurd rfl hmoved
    · exact ⟨c, ⟨hreg, hdecode⟩, hexec⟩
  · exact absurd rfl hmoved
  · exact absurd rfl hmoved

/-- The commands that move the line of an idle block, and where each moves it. -/
theorem exec_idle_line_moved {c : Instr} {s t : State} (hs : s.fsm = .idle) (h : exec c s = .next t)
    (hmoved : t.lineState ≠ s.lineState) :
    (∃ l, c = .setOut l ∧ t.lineState = drv l) ∨
    (∃ p, c = .setIn p ∧ t.lineState = pulled p) ∨
    (∃ l, c = .write l ∧ outputMode s.lineState = true ∧ t.lineState = drv l) ∨
    (∃ w, c = .send w ∧ w.toNat ≤ s.cfg.wmax ∧ t.lineState = .drivenLow) ∨
    (∃ w, c = .receive w ∧ w.toNat ≤ s.cfg.wmax ∧ t.lineState = .idleHigh) := by
  rcases exec_idle_next hs h with ⟨rfl, -⟩ | ⟨-, rfl⟩ | ⟨w, hc, hw, rfl⟩ | ⟨w, hc, hw, rfl⟩ | ⟨l, hc, rfl⟩ | ⟨p, hc, rfl⟩ |
    ⟨l, hc, hmode, rfl⟩ | ⟨_, -, -, rfl⟩ | ⟨-, -, rfl⟩ | ⟨-, -, rfl⟩
  exacts [absurd rfl hmoved, absurd rfl hmoved, .inr (.inr (.inr (.inl ⟨w, hc, hw, rfl⟩))),
    .inr (.inr (.inr (.inr ⟨w, hc, hw, rfl⟩))), .inl ⟨l, hc, rfl⟩, .inr (.inl ⟨p, hc, rfl⟩),
    .inr (.inr (.inl ⟨l, hc, hmode, rfl⟩)), absurd rfl hmoved, absurd rfl hmoved, absurd rfl hmoved]

theorem busUpdate_of_writesCommand {s : State} {i : PortIn} {c : Instr} (h : writesCommand i c) :
    busUpdate s i = exec c s := by
  obtain ⟨⟨hkind, hreg⟩, hdecode⟩ := h
  simp [busUpdate_of_write hkind, registerWrite, hreg, cmdWrite, hdecode]

/-- An ABORT of a running command is all that happens in its cycle, beside the synchroniser (10 R30 step 5). -/
theorem finishCycle_of_abort {s b : State} {i : PortIn} (hwins : abortWins s i = true) (h : busUpdate s i = .next b) :
    finishCycle s i b = shiftSync s.sync1 i.lineI (abortRunning s) := by
  obtain ⟨hbusy, habort⟩ := (abortWins_eq_true s i).1 hwins
  rw [busUpdate_of_writesCommand habort, exec, execAbort, if_pos ((busy_eq_true s).2 hbusy), next_inj] at h
  simp [finishCycle, hwins, h]

/-- Without an ABORT, the bus operation of a busy block leaves the line and the sequencer state alone. -/
theorem busUpdate_busy_keeps {s b : State} {i : PortIn} (hs : s.fsm ≠ .idle) (ha : abortWins s i = false)
    (h : busUpdate s i = .next b) : b.lineState = s.lineState ∧ b.fsm = s.fsm := by
  have hno : writesAbort i = false := by
    simpa only [abortWins, (busy_eq_true s).2 hs, Bool.true_and] using ha
  obtain ⟨_, _, _, _, _, _, _, rfl⟩ := busUpdate_busy hs hno h
  exact ⟨rfl, rfl⟩

/-! ### What moves line_state: the sequencer (40 R59, 42 R76, 43 R82 to R86) -/

/-- A SEND moves the line where a phase ends: into the next phase, or to IDLE_HIGH after the last bit. -/
theorem txStep_line_moved {s b : State} (hmoved : (txStep s b).lineState ≠ b.lineState) :
    s.tcnt = 0 ∧
      (((txStep s b).fsm = b.fsm ∧
        ((txStep s b).lineState = .drivenLow ∨ (txStep s b).lineState = drv (frameBit s) ∨
          (txStep s b).lineState = .drivenHigh)) ∨
       (lastBit s = true ∧ (txStep s b).fsm = .idle ∧ (txStep s b).done = true ∧
        (txStep s b).lineState = .idleHigh)) := by
  unfold txStep at hmoved ⊢
  split_ifs at hmoved ⊢ with htcnt hphase1 hphase2 hlast
  · exact absurd rfl hmoved
  · exact ⟨not_not.1 htcnt, .inl ⟨rfl, .inr (.inl rfl)⟩⟩
  · exact ⟨not_not.1 htcnt, .inl ⟨rfl, .inr (.inr rfl)⟩⟩
  · exact ⟨not_not.1 htcnt, .inr ⟨hlast, rfl, rfl, rfl⟩⟩
  · exact ⟨not_not.1 htcnt, .inl ⟨rfl, .inl rfl⟩⟩

theorem rxWaitHighStep_line_moved {s b : State} (hmoved : (rxWaitHighStep s b).lineState ≠ b.lineState) :
    rxWaitHighStep s b = rxTimeout b := by
  unfold rxWaitHighStep at hmoved ⊢
  split_ifs at hmoved ⊢
  · exact absurd rfl hmoved
  · rfl
  · exact absurd rfl hmoved

theorem rxDelayStep_lineState (s b : State) : (rxDelayStep s b).lineState = b.lineState := by
  unfold rxDelayStep
  split_ifs <;> rfl

theorem rxWaitLowStep_line_moved {s b : State} (hmoved : (rxWaitLowStep s b).lineState ≠ b.lineState) :
    rxWaitLowStep s b = rxComplete s { b with bitidx := s.bitidx + 1, wdog := 0 } ∨
    rxWaitLowStep s b = rxTimeout b := by
  unfold rxWaitLowStep at hmoved ⊢
  split_ifs at hmoved ⊢
  · exact .inl rfl
  · exact absurd rfl hmoved
  · exact .inr rfl
  · exact absurd rfl hmoved

theorem seqUpdate_tx {s : State} (h : s.fsm = .tx) (b : State) : seqUpdate s b = txStep s b := by
  simp [seqUpdate, h]

theorem seqUpdate_rxWaitHigh {s : State} (h : s.fsm = .rxWaitHigh) (b : State) :
    seqUpdate s b = rxWaitHighStep s b := by
  simp [seqUpdate, h]

theorem seqUpdate_rxDelay {s : State} (h : s.fsm = .rxDelay) (b : State) : seqUpdate s b = rxDelayStep s b := by
  simp [seqUpdate, h]

theorem seqUpdate_rxWaitLow {s : State} (h : s.fsm = .rxWaitLow) (b : State) :
    seqUpdate s b = rxWaitLowStep s b := by
  simp [seqUpdate, h]

/-- The sequencer moves the line in a SEND and at the end of a SEND or RECEIVE, and not otherwise. -/
theorem seqUpdate_line_moved {s b : State} (hmoved : (seqUpdate s b).lineState ≠ b.lineState) :
    (s.fsm = .tx ∧ (seqUpdate s b).fsm = b.fsm ∧ s.tcnt = 0 ∧
      ((seqUpdate s b).lineState = .drivenLow ∨ (seqUpdate s b).lineState = drv (frameBit s) ∨
        (seqUpdate s b).lineState = .drivenHigh)) ∨
    (s.fsm = .tx ∧ s.tcnt = 0 ∧ lastBit s = true ∧ (seqUpdate s b).fsm = .idle ∧ (seqUpdate s b).done = true ∧
      (seqUpdate s b).lineState = .idleHigh) ∨
    ((s.fsm = .rxWaitHigh ∨ s.fsm = .rxWaitLow) ∧ (seqUpdate s b).fsm = .idle ∧
      ((seqUpdate s b).done = true ∨ (seqUpdate s b).tout = true) ∧ (seqUpdate s b).lineState = .idleHigh) := by
  cases hfsm : s.fsm with
  | idle => exact absurd (congrArg State.lineState (seqUpdate_idle hfsm b)) hmoved
  | tx =>
    rw [seqUpdate_tx hfsm] at hmoved ⊢
    obtain ⟨htcnt, ⟨hstay, hlevel⟩ | ⟨hlast, hcompleted⟩⟩ := txStep_line_moved hmoved
    · exact .inl ⟨rfl, hstay, htcnt, hlevel⟩
    · exact .inr (.inl ⟨rfl, htcnt, hlast, hcompleted⟩)
  | rxWaitHigh =>
    rw [seqUpdate_rxWaitHigh hfsm] at hmoved ⊢
    rw [rxWaitHighStep_line_moved hmoved]
    exact .inr (.inr ⟨.inl rfl, rfl, .inr rfl, rfl⟩)
  | rxDelay =>
    rw [seqUpdate_rxDelay hfsm] at hmoved
    exact absurd (rxDelayStep_lineState s b) hmoved
  | rxWaitLow =>
    rw [seqUpdate_rxWaitLow hfsm] at hmoved ⊢
    rcases rxWaitLowStep_line_moved hmoved with h | h <;> rw [h]
    · exact .inr (.inr ⟨.inr rfl, rfl, .inl rfl, rfl⟩)
    · exact .inr (.inr ⟨.inr rfl, rfl, .inr rfl, rfl⟩)

/-! ### line_state during a SEND, and under a rejected command (40 R59) -/

@[simp] theorem outputMode_drv (l : Bool) : outputMode (drv l) = true := by cases l <;> rfl

/-- The line is in output mode in each of the three phases of a SEND's bit. -/
theorem Inv.outputMode_of_tx {s : State} (hinv : Inv s) (hs : s.fsm = .tx) : outputMode s.lineState = true := by
  rcases hinv.tx_phase hs with ⟨-, hline, -⟩ | ⟨-, hline, -⟩ | ⟨-, -, hline, -⟩ <;> rw [hline]
  · rfl
  · exact outputMode_drv _
  · rfl

/-- A line-driver command written while the block is busy is rejected with cause 3 (44 R93). -/
theorem exec_lineDriver_busy {c : Instr} {s : State} (hs : s.fsm ≠ .idle)
    (hc : (∃ l, c = .setOut l) ∨ (∃ p, c = .setIn p) ∨ (∃ l, c = .write l) ∨ c = .read) :
    exec c s = .next (raiseCmdErr 3 s) := by
  rcases hc with ⟨l, rfl⟩ | ⟨p, rfl⟩ | ⟨l, rfl⟩ | rfl <;> exact whenIdle_busy hs _

/-- The sequencer moves the line alike whether or not a command was rejected in the cycle. -/
theorem seqUpdate_raiseCmdErr_lineState (s t : State) (k : BitVec 3) :
    (seqUpdate s (raiseCmdErr k t)).lineState = (seqUpdate s t).lineState := by
  have hraise : raiseCmdErr k t = withFlags { flagsOf t with cerr := true, ecause := k } t := rfl
  rw [hraise, seqUpdate_withFlags]
  rfl

/-- While busy, the cycle of a line-driver command leaves the line as the cycle without it does. -/
theorem clock_lineDriver_busy_lineState {s t u : State} {i : PortIn} {c : Instr} (hs : s.fsm ≠ .idle)
    (hrst : i.rst = false) (hwrites : writesCommand i c)
    (hc : (∃ l, c = .setOut l) ∨ (∃ p, c = .setIn p) ∨ (∃ l, c = .write l) ∨ c = .read)
    (ht : clock s i = .next t) (hu : clock s { i with busOp := 0 } = .next u) : t.lineState = u.lineState := by
  have hreject := (busUpdate_of_writesCommand hwrites).trans (exec_lineDriver_busy hs hc)
  have hlive : abortWins s i = false := by
    rw [← Bool.not_eq_true, abortWins_eq_true]
    rintro ⟨-, -, hdecode⟩
    obtain rfl : c = .abort := by simpa [hwrites.2] using hdecode
    simp at hc
  obtain ⟨b, hbus, rfl⟩ := clock_of_no_reset ht hrst
  obtain rfl := next_inj.1 (hreject.symm.trans hbus)
  rw [clock_of_not_write (i := { i with busOp := 0 }) nofun, if_pos (clock_eq_next.1 ht).1, if_neg (by simp [hrst]),
    next_inj] at hu
  rw [hu, finishCycle_of_no_abort hlive]
  exact seqUpdate_raiseCmdErr_lineState s s 3

/-- Settles O29: a cycle is a reset, the command of an idle block (`exec_idle_line_moved`), an ABORT, or the sequencer's
move (`seqUpdate_line_moved`) over a bus operation that leaves the line alone. -/
theorem lineStateTransitionsAreTheListedOnes : Obligations.LineStateTransitionsAreTheListedOnes := by
  refine ⟨fun s t i hclock hmoved => ?_, fun s hinv hrx => hinv.rx_line hrx, fun s hinv hs => ?_,
    fun _ _ _ _ _ hs hrst hwrites hc ht hu => clock_lineDriver_busy_lineState hs hrst hwrites hc ht hu⟩
  · obtain ⟨-, ⟨hrst, rfl⟩ | ⟨-, b, hbus, rfl⟩⟩ := clock_eq_next.1 hclock
    · exact .inl ⟨hrst, rfl⟩
    refine .inr ?_
    by_cases hs : s.fsm = .idle
    · rw [finishCycle_idle hs] at hmoved ⊢
      obtain ⟨c, hwrites, hexec⟩ := busUpdate_line_moved hbus hmoved
      rcases exec_idle_line_moved hs hexec hmoved with ⟨l, rfl, hline⟩ | ⟨p, rfl, hline⟩ | ⟨l, rfl, hmode, hline⟩ |
        ⟨w, rfl, hw, hline⟩ | ⟨w, rfl, hw, hline⟩
      · exact .inl ⟨l, hs, hwrites, hline⟩
      · exact .inr (.inl ⟨p, hs, hwrites, hline⟩)
      · exact .inr (.inr (.inl ⟨l, hs, hmode, hwrites, hline⟩))
      · exact .inr (.inr (.inr (.inl ⟨w, hs, hw, hwrites, hline⟩)))
      · exact .inr (.inr (.inr (.inr (.inr (.inr (.inl ⟨w, hs, hw, hwrites, hline⟩))))))
    refine .inr (.inr (.inr (.inr ?_)))
    cases hwins : abortWins s i with
    | true =>
      rw [finishCycle_of_abort hwins hbus]
      exact .inr (.inr (.inr (.inr ⟨hs, ((abortWins_eq_true s i).1 hwins).2, rfl⟩)))
    | false =>
      obtain ⟨hline, hfsm⟩ := busUpdate_busy_keeps hs hwins hbus
      rw [finishCycle_of_no_abort hwins, ← hline] at hmoved
      rw [finishCycle_of_no_abort hwins]
      rcases seqUpdate_line_moved hmoved with ⟨htx, hstay, hphase⟩ | ⟨htx, htcnt, hlast, hcompleted⟩ | hended
      · exact .inl ⟨htx, hstay.trans (hfsm.trans htx), hphase⟩
      · exact .inr (.inl ⟨htx, htcnt, (lastBit_iff s).1 hlast, hcompleted⟩)
      · exact .inr (.inr (.inr (.inl hended)))
  · have hmode := hinv.outputMode_of_tx hs
    constructor <;> intro hline <;> simp [hline, outputMode] at hmode

end Sys2Proof.Machine
end

section
/-!
PROOFS of the family 41_frame_codec.md: Encode (R67), Decode (R70), and the laws that join them (R69, R72).
-/

namespace Sys2Proof.Machine

/-! ### Encode, bit by bit and as a number (41 R67) -/

/-- The start bit, the payload and the stop bit of the image, and zeros above. -/
theorem frameEncode_getLsbD (v : Word) {w : Nat} (hw : w ≤ 32) (i : Nat) :
    (frameEncode v w).getLsbD i = (decide (1 ≤ i ∧ i ≤ w) && v.getLsbD (i - 1) || decide (i = w + 1)) := by
  rw [frameEncode, setBit_getLsbD _ _ _ _ (by omega), payloadImage_getLsbD _ _ _ (by omega)]
  by_cases hstop : i = w + 1 <;> simp [hstop]

/-- The payload is shifted past the start bit, and the stop bit stands above it, so adding it is setting it. -/
theorem frameEncode_toNat (v : Word) {w : Nat} (hw : w ≤ 32) :
    (frameEncode v w).toNat = 2 ^ (w + 1) + 2 * (v.toNat % 2 ^ w) := by
  have hpayload : 2 * (v.toNat % 2 ^ w) < 2 ^ (w + 1) := by
    have := Nat.mod_lt v.toNat (Nat.two_pow_pos w)
    omega
  have hor : 2 ^ (w + 1) + 2 * (v.toNat % 2 ^ w) = 2 ^ (w + 1) ||| 2 * (v.toNat % 2 ^ w) := by
    simpa using Nat.two_pow_add_eq_or_of_lt hpayload 1
  refine Nat.eq_of_testBit_eq fun i => ?_
  rw [BitVec.testBit_toNat, frameEncode_getLsbD v hw, hor, Nat.testBit_or, Nat.testBit_two_pow]
  cases i with
  | zero => simp
  | succ i =>
    have hshift : (2 * (v.toNat % 2 ^ w)).testBit (i + 1) = (v.toNat % 2 ^ w).testBit i := by simp [Nat.testBit_succ]
    rw [hshift, Nat.testBit_mod_two_pow, BitVec.testBit_toNat, Bool.or_comm]
    simp [eq_comm (a := w)]

/-- Settles O33: the bits are those the loop of Encode sets, and the number is the one with these bits. -/
theorem encodeIsTheFrameImage : Obligations.EncodeIsTheFrameImage :=
  ⟨fun v _ i hw => frameEncode_getLsbD v hw i, fun v _ hw => frameEncode_toNat v hw⟩

/-! ### Decode as a number, and the bits it does not look at (41 R70) -/

theorem frameDecode_toNat (b : Image) {w : Nat} (hw : w ≤ 32) : (frameDecode b w).toNat = b.toNat / 2 % 2 ^ w := by
  refine Nat.eq_of_testBit_eq fun i => ?_
  rw [BitVec.testBit_toNat, frameDecode_getLsbD _ _ _ hw, Nat.testBit_mod_two_pow, ← Nat.testBit_succ,
    BitVec.testBit_toNat]

/-- Decode depends on the payload's bits 1 to W alone. -/
theorem frameDecode_congr {b c : Image} {w : Nat} (hw : w ≤ 32)
    (hpayload : ∀ i, i < w → b.getLsbD (i + 1) = c.getLsbD (i + 1)) : frameDecode b w = frameDecode c w := by
  refine BitVec.eq_of_getLsbD_eq fun i _ => ?_
  rw [frameDecode_getLsbD _ _ _ hw, frameDecode_getLsbD _ _ _ hw]
  by_cases hi : i < w
  · rw [hpayload i hi]
  · simp [hi]

theorem frameDecode_setBit_framing (b : Image) {w : Nat} (hw : w ≤ 32) (x y : Bool) :
    frameDecode (setBit (setBit b 0 x) (w + 1) y) w = frameDecode b w := by
  refine frameDecode_congr hw fun i hi => ?_
  have hstop : i + 1 ≠ w + 1 := by omega
  rw [setBit_getLsbD _ _ _ _ (by omega), if_neg hstop, setBit_getLsbD _ _ _ _ (by omega), if_neg i.succ_ne_zero]

/-- Settles O34: the bits are those the loop of Decode sets; the number and the blindness to the framing bits follow. -/
theorem decodeIsThePayload : Obligations.DecodeIsThePayload :=
  ⟨fun b w i hw => frameDecode_getLsbD b w i hw, fun b _ hw => frameDecode_toNat b hw,
    fun b _ x y hw => frameDecode_setBit_framing b hw x y, fun _ => rfl⟩

/-! ### The laws of the codec (41 R69, R72) -/

/-- Halving the image drops the start bit, and the remainder drops the stop bit. -/
theorem frameDecode_frameEncode_toNat (v : Word) {w : Nat} (hw : w ≤ 32) :
    (frameDecode (frameEncode v w) w).toNat = v.toNat % 2 ^ w := by
  calc (frameDecode (frameEncode v w) w).toNat
      = (2 ^ (w + 1) + 2 * (v.toNat % 2 ^ w)) / 2 % 2 ^ w := by rw [frameDecode_toNat _ hw, frameEncode_toNat v hw]
    _ = (2 ^ w + v.toNat % 2 ^ w) % 2 ^ w := by congr 1; omega
    _ = v.toNat % 2 ^ w := by rw [Nat.add_mod_left, Nat.mod_mod]

theorem frameDecode_frameEncode {v : Word} {w : Nat} (hw : w ≤ 32) (hv : v.toNat < 2 ^ w) :
    frameDecode (frameEncode v w) w = v :=
  BitVec.eq_of_toNat_eq ((frameDecode_frameEncode_toNat v hw).trans (Nat.mod_eq_of_lt hv))

/-- Encode sees its value modulo 2^W alone. -/
theorem frameEncode_congr {u v : Word} {w : Nat} (hw : w ≤ 32) (h : u.toNat % 2 ^ w = v.toNat % 2 ^ w) :
    frameEncode u w = frameEncode v w :=
  BitVec.eq_of_toNat_eq (by rw [frameEncode_toNat u hw, frameEncode_toNat v hw, h])

theorem frameEncode_truncated (v : Word) {w : Nat} (hw : w ≤ 32) :
    frameEncode v w = frameEncode (BitVec.ofNat 32 (v.toNat % 2 ^ w)) w := by
  refine frameEncode_congr hw ?_
  rw [BitVec.toNat_ofNat, Nat.mod_mod_of_dvd _ (Nat.pow_dvd_pow 2 hw), Nat.mod_mod]

/-- The frame of width 0 is the start bit and the stop bit alone. -/
theorem frameEncode_width_zero (v : Word) : frameEncode v 0 = 2 := by
  refine BitVec.eq_of_toNat_eq ?_
  rw [frameEncode_toNat v (Nat.zero_le 32), pow_zero, Nat.mod_one]
  rfl

/-- Settles O35: the round trip, the truncation and the frame of width 0 follow from the numbers, the frame's length and
framing bits from the bits of Encode. -/
theorem frameCodecLaws : Obligations.FrameCodecLaws := by
  refine ⟨fun v w hw hv => frameDecode_frameEncode hw hv, fun v w i hw hi => ?above,
    fun v w hw => ⟨?start, ?stop⟩, fun v w hw => frameEncode_truncated v hw, frameEncode_width_zero, fun _ => rfl⟩
  case above =>
    have hpayload : ¬ i ≤ w := by omega
    rw [frameEncode_getLsbD v hw]
    simp [hpayload, hi.ne']
  case start =>
    rw [frameEncode_getLsbD v hw]
    simp
  case stop =>
    rw [frameEncode_getLsbD v hw]
    simp

end Sys2Proof.Machine
end

section
/-!
PROOFS of the family 42_send.md: the transmit sequencer's step (R76), the waveform of a SEND (R77), its length and its
end (R78).
-/

namespace Sys2Proof.Machine

/-! ### A cycle without reset and ABORT (10 R30) -/

theorem calm_iff (i : PortIn) : calm i = true ↔ i.rst = false ∧ writesAbort i = false := by simp [calm]

theorem quiet_iff (i : PortIn) : quiet i = true ↔ i.rst = false ∧ busKind i.busOp ≠ .write := by simp [quiet]

theorem calm_of_quiet {i : PortIn} (h : quiet i = true) : calm i = true := by
  obtain ⟨hrst, hkind⟩ := (quiet_iff i).1 h
  refine (calm_iff i).2 ⟨hrst, Bool.eq_false_iff.2 fun habort => hkind ?_⟩
  exact ((writesAbort_iff i).1 habort).1.1

/-- A calm cycle is the bus operation, then the sequencer, then the synchroniser. -/
theorem clock_calm {s b : State} {i : PortIn} (hlegal : s.cfg.legal = true) (hcalm : calm i = true)
    (hbus : busUpdate s i = .next b) : clock s i = .next (shiftSync s.sync1 i.lineI (seqUpdate s b)) := by
  obtain ⟨hrst, habort⟩ := (calm_iff i).1 hcalm
  have hlive : abortWins s i = false := by simp [abortWins, habort]
  exact clock_eq_next.2 ⟨hlegal, .inr ⟨hrst, b, hbus, (finishCycle_of_no_abort hlive b).symm⟩⟩

/-! ### The five cases of TxStep (42 R76) -/

section TxStepCases

variable {s : State} (b : State)

theorem txStep_counting (h : s.tcnt ≠ 0) : txStep s b = { b with tcnt := s.tcnt - 1 } := if_pos h

theorem txStep_low_ends (h0 : s.tcnt = 0) (h1 : s.phase = 1) :
    txStep s b = { b with phase := 2, lineState := drv (frameBit s), tcnt := countFor (valuePhaseCycles s.cfg) } := by
  simp [txStep, h0, h1]

theorem txStep_value_ends (h0 : s.tcnt = 0) (h2 : s.phase = 2) (hp2 : s.cfg.p2Ticks = 1) :
    txStep s b = { b with phase := 3, lineState := .drivenHigh, tcnt := countFor (tickCycles s.cfg) } := by
  simp [txStep, h0, h2, hp2]

theorem txStep_bit_ends (h0 : s.tcnt = 0) (h1 : s.phase ≠ 1) (h2 : ¬ (s.phase = 2 ∧ s.cfg.p2Ticks = 1)) :
    txStep s b =
      if lastBit s then release { b with bitidx := s.bitidx + 1, done := true }
      else startLowPhase s.cfg { b with bitidx := s.bitidx + 1 } := by
  rw [txStep, if_neg (not_not.2 h0), if_neg h1, if_neg h2]

end TxStepCases

/-- Settles O36: a calm cycle in TX is `txStep` over what the bus operation left, case by case. -/
theorem transmitterTakesItsStep : Obligations.TransmitterTakesItsStep := by
  intro s b i hlegal hcalm htx hbus
  have hclock : clock s i = .next (shiftSync s.sync1 i.lineI (txStep s b)) := by
    rw [clock_calm hlegal hcalm hbus, seqUpdate_tx htx]
  refine ⟨fun hcount => ?_, fun h0 h1 => ?_, fun h0 h2 hp2 => ?_, fun h0 h1 h2 hlast => ?_, fun h0 h1 h2 hmore => ?_⟩
  · rw [hclock, txStep_counting b hcount]
    rfl
  · rw [hclock, txStep_low_ends b h0 h1]
    rfl
  · rw [hclock, txStep_value_ends b h0 h2 hp2]
    rfl
  · rw [hclock, txStep_bit_ends b h0 h1 h2, if_pos ((lastBit_iff s).2 hlast)]
    rfl
  · rw [hclock, txStep_bit_ends b h0 h1 h2, if_neg (mt (lastBit_iff s).1 hmore)]
    rfl

/-! ### Steps and runs over listed inputs (10 R30) -/

theorem step_calm {s b : State} {i : PortIn} {more : List PortIn} (hlegal : s.cfg.legal = true)
    (hin : s.inputs = i :: more) (hcalm : calm i = true) (hbus : busUpdate s i = .next b) :
    step s = .next (passCycle (shiftSync s.sync1 i.lineI (seqUpdate s b))) := by
  rw [step, nextInput_cons hin, clock_calm hlegal hcalm hbus, mapNext_next]

/-- A property of the state and of the cycle's number that every listed cycle carries on holds along the run. -/
theorem run_along {P : Nat → State → Prop} {Q : PortIn → Prop} {n : Nat} {rest : List PortIn}
    (hstep : ∀ {k s j more}, k < n → P k s → s.inputs = j :: more → Q j →
      ∃ t, step s = .next t ∧ t.inputs = more ∧ P (k + 1) t) (m : Nat) :
    ∀ {k s ins}, P k s → s.inputs = ins ++ rest → (∀ j ∈ ins, Q j) → m ≤ ins.length → k + m ≤ n →
      ∃ t, run m s = .next t ∧ t.inputs = ins.drop m ++ rest ∧ P (k + m) t := by
  induction m with
  | zero => exact fun hP hin _ _ _ => ⟨_, run_zero _, hin, hP⟩
  | succ m ih =>
    intro k s ins hP hin hQ hlen hn
    obtain _ | ⟨j, more⟩ := ins
    · simp at hlen
    obtain ⟨u, hs, hinu, hPu⟩ := hstep (by omega) hP hin (hQ j List.mem_cons_self)
    obtain ⟨t, hrun, hint, hPt⟩ := ih hPu hinu (fun l hl => hQ l (List.mem_cons_of_mem j hl))
      (by simpa using hlen) (by omega)
    refine ⟨t, ?_, hint, ?_⟩
    · rw [run_succ, hs]
      exact hrun
    · rwa [Nat.add_assoc, Nat.add_comm 1 m] at hPt

/-! ### The phase table (42 R77) -/

/-- The level in cycle r of frame bit b. -/
theorem waveLevel_in_bit (p : Params) (f : Image) {w : BitVec 6} {b r : Nat} (hb : b < frameLength w)
    (hr : r < bitCycles p) :
    waveLevel p f w (bitCycles p * b + r) =
      if r < tickCycles p then false
      else if r < tickCycles p + valuePhaseCycles p then f.getLsbD b else true := by
  have hwithin : ¬ bitCycles p * frameLength w ≤ bitCycles p * b + r := by
    have hbits : bitCycles p * (b + 1) ≤ bitCycles p * frameLength w := Nat.mul_le_mul_left _ hb
    rw [Nat.mul_succ] at hbits
    omega
  have hmod : (bitCycles p * b + r) % bitCycles p = r := by rw [Nat.mul_add_mod, Nat.mod_eq_of_lt hr]
  have hdiv : (bitCycles p * b + r) / bitCycles p = b := by
    rw [Nat.mul_add_div (by omega), Nat.div_eq_of_lt hr, Nat.add_zero]
  rw [waveLevel, if_neg hwithin, hmod, hdiv]

/-- The length of phase 2 is one tick, or the two that phases 2 and 3 have together. -/
theorem valuePhaseCycles_cases {p : Params} (h : p.legal = true) :
    (p.p2Ticks = 1 ∧ valuePhaseCycles p = tickCycles p) ∨ (p.p2Ticks = 2 ∧ valuePhaseCycles p = 2 * tickCycles p) := by
  obtain ⟨-, -, hp2 | hp2, -⟩ := (legal_iff p).1 h <;> simp [valuePhaseCycles, hp2]

/-- The counts that phases 1 and 3 and phase 2 are loaded with, one below their lengths (41 R73). -/
theorem countFor_tickCycles {p : Params} (h : p.legal = true) :
    (countFor (tickCycles p)).toNat + 1 = tickCycles p := by
  have hmin := two_le_tickCycles h
  have hmax := tickCycles_le h
  rw [countFor, toNat_ofNat_of_lt] <;> omega

theorem countFor_valuePhaseCycles {p : Params} (h : p.legal = true) :
    (countFor (valuePhaseCycles p)).toNat + 1 = valuePhaseCycles p := by
  have hmin := two_le_tickCycles h
  have hmax := tickCycles_le h
  have hvalue := valuePhaseCycles_cases h
  rw [countFor, toNat_ofNat_of_lt] <;> omega

/-! ### Where a running SEND stands -/

/-- The cycle of a bit in which its current phase ends. -/
def phaseEnd (s : State) : Nat :=
  if s.phase = 1 then tickCycles s.cfg
  else if s.phase = 2 then tickCycles s.cfg + valuePhaseCycles s.cfg
  else bitCycles s.cfg

/-- s is in cycle k of the SEND of the frame f of width w: `tcnt` cycles before the end of a phase of bit `bitidx`. -/
structure SendAt (p : Params) (f : Image) (w : BitVec 6) (k : Nat) (s : State) : Prop where
  cfg_eq : s.cfg = p
  fsm_eq : s.fsm = .tx
  frame_eq : s.frame = f
  width_eq : s.width = w
  bit_lt : s.bitidx.toNat < frameLength w
  phase_ok : TxPhaseOk s
  position : k + 1 + s.tcnt.toNat = bitCycles p * s.bitidx.toNat + phaseEnd s

/-- A SEND of width w has ended: the line is released and DONE is set (42 R76, R78). -/
structure SendEnded (p : Params) (w : BitVec 6) (s : State) : Prop where
  cfg_eq : s.cfg = p
  fsm_eq : s.fsm = .idle
  line_eq : s.lineState = .idleHigh
  done_eq : s.done = true
  bits_eq : s.bitidx.toNat = frameLength w

section RunningSend

variable {p : Params} {f : Image} {w : BitVec 6} {k : Nat} {s : State}

/-- The phases of a SEND's bit: the level of each, the bound of its count, and where it ends. -/
theorem SendAt.phase_cases (h : SendAt p f w k s) :
    (s.phase = 1 ∧ s.lineState = drv false ∧ s.tcnt.toNat < tickCycles p ∧ phaseEnd s = tickCycles p) ∨
    (s.phase = 2 ∧ s.lineState = drv (f.getLsbD s.bitidx.toNat) ∧ s.tcnt.toNat < valuePhaseCycles p ∧
      phaseEnd s = tickCycles p + valuePhaseCycles p) ∨
    (s.phase = 3 ∧ p.p2Ticks = 1 ∧ s.lineState = drv true ∧ s.tcnt.toNat < tickCycles p ∧
      phaseEnd s = bitCycles p) := by
  obtain ⟨rfl, -, rfl, -, -, hphase, -⟩ := h
  rcases hphase with ⟨h1, hline, hcount⟩ | ⟨h2, hline, hcount⟩ | ⟨h3, hp2, hline, hcount⟩
  · exact .inl ⟨h1, hline, hcount, by simp [phaseEnd, h1]⟩
  · exact .inr (.inl ⟨h2, hline, hcount, by simp [phaseEnd, h2]⟩)
  · exact .inr (.inr ⟨h3, hp2, hline, hcount, by simp [phaseEnd, h3]⟩)

theorem SendAt.count_lt_phaseEnd (hlegal : p.legal = true) (h : SendAt p f w k s) :
    s.tcnt.toNat < phaseEnd s ∧ phaseEnd s ≤ bitCycles p := by
  have hvalue := valuePhaseCycles_cases hlegal
  have hbit : bitCycles p = 3 * tickCycles p := rfl
  rcases h.phase_cases with ⟨-, -, hcount, hend⟩ | ⟨-, -, hcount, hend⟩ | ⟨-, -, -, hcount, hend⟩ <;> omega

theorem SendAt.lt_length (hlegal : p.legal = true) (h : SendAt p f w k s) : k < bitCycles p * frameLength w := by
  have hposition := h.position
  obtain ⟨-, hend⟩ := h.count_lt_phaseEnd hlegal
  have hbits : bitCycles p * (s.bitidx.toNat + 1) ≤ bitCycles p * frameLength w := Nat.mul_le_mul_left _ h.bit_lt
  rw [Nat.mul_succ] at hbits
  omega

/-- Cycle k is cycle r of its bit, r being what the count leaves of the phase; each phase drives the table's level. -/
theorem SendAt.level (hlegal : p.legal = true) (h : SendAt p f w k s) : s.lineState = drv (waveLevel p f w k) := by
  have hposition := h.position
  obtain ⟨hcount, hend⟩ := h.count_lt_phaseEnd hlegal
  obtain ⟨r, hr⟩ : ∃ r, r + 1 + s.tcnt.toNat = phaseEnd s := ⟨phaseEnd s - 1 - s.tcnt.toNat, by omega⟩
  obtain rfl : k = bitCycles p * s.bitidx.toNat + r := by omega
  rw [waveLevel_in_bit p f h.bit_lt (by omega)]
  rcases h.phase_cases with ⟨-, hline, hcount, hend⟩ | ⟨-, hline, hcount, hend⟩ | ⟨-, hp2, hline, hcount, hend⟩
  · rw [hline, if_pos (by omega)]
  · rw [hline, if_neg (by omega), if_pos (by omega)]
  · have hvalue : valuePhaseCycles p = tickCycles p := by simp [valuePhaseCycles, hp2]
    have hbit : bitCycles p = 3 * tickCycles p := rfl
    rw [hline, if_neg (by omega), if_neg (by omega)]

/-- Neither the synchroniser nor the input list is part of where a SEND stands. -/
theorem SendAt.endCycle (first line : Bool) (h : SendAt p f w k s) :
    SendAt p f w k (passCycle (shiftSync first line s)) :=
  ⟨h.cfg_eq, h.fsm_eq, h.frame_eq, h.width_eq, h.bit_lt, h.phase_ok, h.position⟩

theorem SendEnded.endCycle (first line : Bool) (h : SendEnded p w s) :
    SendEnded p w (passCycle (shiftSync first line s)) :=
  ⟨h.cfg_eq, h.fsm_eq, h.line_eq, h.done_eq, h.bits_eq⟩

/-- The host reaches none of the registers TxStep reads, so the sequencer goes on from what the host left. -/
theorem SendAt.busUpdate_keeps {b : State} {i : PortIn} (h : SendAt p f w k s) (habort : writesAbort i = false)
    (hbus : busUpdate s i = .next b) :
    SendAt p f w k b ∧ b.inputs = s.inputs ∧ seqUpdate s b = txStep b b := by
  obtain ⟨_, _, _, _, _, _, _, rfl⟩ := busUpdate_busy (by simp [h.fsm_eq]) habort hbus
  exact ⟨⟨h.cfg_eq, h.fsm_eq, h.frame_eq, h.width_eq, h.bit_lt, h.phase_ok, h.position⟩, rfl, seqUpdate_tx h.fsm_eq _⟩

/-! ### A SEND moves on by one cycle (42 R76 to R78) -/

theorem SendAt.counts_down (h : SendAt p f w k s) (hcount : s.tcnt ≠ 0) : SendAt p f w (k + 1) (txStep s s) := by
  have hdown : (s.tcnt - 1).toNat + 1 = s.tcnt.toNat := by bv_omega
  have hless : (s.tcnt - 1).toNat ≤ s.tcnt.toNat := by omega
  rw [txStep_counting s hcount]
  refine ⟨h.cfg_eq, h.fsm_eq, h.frame_eq, h.width_eq, h.bit_lt, ?_, ?_⟩
  · rcases h.phase_ok with ⟨h1, hline, hlt⟩ | ⟨h2, hline, hlt⟩ | ⟨h3, hp2, hline, hlt⟩
    · exact .inl ⟨h1, hline, hless.trans_lt hlt⟩
    · exact .inr (.inl ⟨h2, hline, hless.trans_lt hlt⟩)
    · exact .inr (.inr ⟨h3, hp2, hline, hless.trans_lt hlt⟩)
  · calc k + 1 + 1 + (s.tcnt - 1).toNat = k + 1 + s.tcnt.toNat := by omega
      _ = _ := h.position

theorem SendAt.low_ends (hlegal : p.legal = true) (h : SendAt p f w k s) (h0 : s.tcnt = 0) (h1 : s.phase = 1) :
    SendAt p f w (k + 1) (txStep s s) := by
  obtain rfl := h.cfg_eq
  have hload := countFor_valuePhaseCycles hlegal
  have hposition : k + 1 = bitCycles s.cfg * s.bitidx.toNat + tickCycles s.cfg := by
    simpa [phaseEnd, h0, h1] using h.position
  rw [txStep_low_ends s h0 h1]
  refine ⟨rfl, h.fsm_eq, h.frame_eq, h.width_eq, h.bit_lt, .inr (.inl ⟨rfl, rfl, Nat.lt_of_succ_le hload.le⟩), ?_⟩
  change k + 1 + 1 + (countFor (valuePhaseCycles s.cfg)).toNat =
    bitCycles s.cfg * s.bitidx.toNat + (tickCycles s.cfg + valuePhaseCycles s.cfg)
  omega

theorem SendAt.value_ends (hlegal : p.legal = true) (h : SendAt p f w k s) (h0 : s.tcnt = 0) (h2 : s.phase = 2)
    (hp2 : p.p2Ticks = 1) : SendAt p f w (k + 1) (txStep s s) := by
  obtain rfl := h.cfg_eq
  have hload := countFor_tickCycles hlegal
  have hposition : k + 1 = bitCycles s.cfg * s.bitidx.toNat + (tickCycles s.cfg + tickCycles s.cfg) := by
    simpa [phaseEnd, h0, h2, valuePhaseCycles, hp2] using h.position
  rw [txStep_value_ends s h0 h2 hp2]
  refine ⟨rfl, h.fsm_eq, h.frame_eq, h.width_eq, h.bit_lt, .inr (.inr ⟨rfl, hp2, rfl, Nat.lt_of_succ_le hload.le⟩), ?_⟩
  change k + 1 + 1 + (countFor (tickCycles s.cfg)).toNat = bitCycles s.cfg * s.bitidx.toNat + 3 * tickCycles s.cfg
  omega

theorem SendAt.bit_ends (hlegal : p.legal = true) (h : SendAt p f w k s) (hwidth : w.toNat ≤ p.wmax) (h0 : s.tcnt = 0)
    (h1 : s.phase ≠ 1) (h2 : ¬ (s.phase = 2 ∧ p.p2Ticks = 1)) (hend : phaseEnd s = bitCycles p) :
    SendAt p f w (k + 1) (txStep s s) ∨ k + 1 = bitCycles p * frameLength w ∧ SendEnded p w (txStep s s) := by
  obtain rfl := h.cfg_eq
  obtain rfl := h.width_eq
  have hlt := h.bit_lt
  have hnext : (s.bitidx + 1).toNat = s.bitidx.toNat + 1 := by
    obtain ⟨-, ⟨-, hmax⟩, -⟩ := (legal_iff s.cfg).1 hlegal
    rw [frameLength] at hlt
    bv_omega
  have hposition : k + 1 = bitCycles s.cfg * (s.bitidx.toNat + 1) := by
    simpa [h0, hend, Nat.mul_succ] using h.position
  rw [txStep_bit_ends s h0 h1 h2]
  split_ifs with hlast
  · have hall : s.bitidx.toNat + 1 = frameLength s.width := (lastBit_iff s).1 hlast
    exact .inr ⟨hall ▸ hposition, rfl, rfl, rfl, rfl, hnext.trans hall⟩
  · have hmore : s.bitidx.toNat + 1 ≠ frameLength s.width := mt (lastBit_iff s).2 hlast
    have hload := countFor_tickCycles hlegal
    refine .inl ⟨rfl, h.fsm_eq, h.frame_eq, rfl, ?_, .inl ⟨rfl, rfl, Nat.lt_of_succ_le hload.le⟩, ?_⟩
    · exact hnext.trans_lt (Nat.lt_of_le_of_ne hlt hmore)
    · change k + 1 + 1 + (countFor (tickCycles s.cfg)).toNat =
        bitCycles s.cfg * (s.bitidx + 1).toNat + tickCycles s.cfg
      rw [hnext]
      omega

/-- The next cycle of a SEND is the next one of its waveform, or the frame is complete. -/
theorem SendAt.txStep_moves (hlegal : p.legal = true) (h : SendAt p f w k s) (hwidth : w.toNat ≤ p.wmax) :
    SendAt p f w (k + 1) (txStep s s) ∨ k + 1 = bitCycles p * frameLength w ∧ SendEnded p w (txStep s s) := by
  by_cases h0 : s.tcnt = 0
  · rcases h.phase_cases with ⟨h1, -⟩ | ⟨h2, -, -, hend⟩ | ⟨h3, -, -, -, hend⟩
    · exact .inl (h.low_ends hlegal h0 h1)
    · rcases valuePhaseCycles_cases hlegal with ⟨hp2, -⟩ | ⟨hp2, hlen⟩
      · exact .inl (h.value_ends hlegal h0 h2 hp2)
      · have hbit : bitCycles p = 3 * tickCycles p := rfl
        exact h.bit_ends hlegal hwidth h0 (by simp [h2]) (by simp [hp2]) (by omega)
    · exact h.bit_ends hlegal hwidth h0 (by simp [h3]) (by simp [h3]) hend
  · exact .inl (h.counts_down h0)

/-! ### A whole SEND (42 R77, R78) -/

/-- What holds k cycles after the acceptance's own: the SEND is in its cycle k, or it is over after its last. -/
def SendProgress (p : Params) (f : Image) (w : BitVec 6) (k : Nat) (s : State) : Prop :=
  SendAt p f w k s ∨ k = bitCycles p * frameLength w ∧ SendEnded p w s

theorem SendProgress.sendAt (h : SendProgress p f w k s) (hk : k < bitCycles p * frameLength w) : SendAt p f w k s :=
  h.resolve_right fun hended => hk.ne hended.1

theorem SendProgress.sendEnded (hlegal : p.legal = true) (h : SendProgress p f w (bitCycles p * frameLength w) s) :
    SendEnded p w s :=
  (h.resolve_left fun hat => (hat.lt_length hlegal).ne rfl).2

/-- The cycle that writes an accepted SEND is followed by cycle 0 of its waveform (42 R75). -/
theorem step_send {i : PortIn} {more : List PortIn} (hlegal : s.cfg.legal = true) (hidle : s.fsm = .idle)
    (hwidth : w.toNat ≤ s.cfg.wmax) (hrst : i.rst = false) (hsend : writesCommand i (.send w))
    (hin : s.inputs = i :: more) :
    ∃ t, step s = .next t ∧ t.inputs = more ∧ SendAt s.cfg (frameEncode s.txdata w.toNat) w 0 t := by
  have hcalm : calm i = true := by
    refine (calm_iff i).2 ⟨hrst, ?_⟩
    simp [writesAbort, hsend.2]
  have hbus : busUpdate s i = .next (txAccept w s) := by
    rw [busUpdate_of_writesCommand hsend, exec, execSend, whenIdle_idle hidle, whenFits_le hwidth]
  refine ⟨_, step_calm hlegal hin hcalm hbus, ?_, ?_⟩
  · simp [seqUpdate_idle hidle, hin]
  · rw [seqUpdate_idle hidle]
    have hload := countFor_tickCycles hlegal
    refine SendAt.endCycle _ _ ⟨rfl, rfl, rfl, rfl, Nat.succ_pos _, .inl ⟨rfl, rfl, Nat.lt_of_succ_le hload.le⟩, ?_⟩
    change 0 + 1 + (countFor (tickCycles s.cfg)).toNat = bitCycles s.cfg * 0 + tickCycles s.cfg
    omega

theorem SendAt.step_moves {j : PortIn} {more : List PortIn} (hlegal : p.legal = true) (hwidth : w.toNat ≤ p.wmax)
    (h : SendAt p f w k s) (hin : s.inputs = j :: more) (hcalm : calm j = true) :
    ∃ t, step s = .next t ∧ t.inputs = more ∧ SendProgress p f w (k + 1) t := by
  obtain ⟨b, hbus⟩ := busUpdate_answers_next s j
  obtain ⟨hb, hinb, hseq⟩ := h.busUpdate_keeps ((calm_iff j).1 hcalm).2 hbus
  refine ⟨_, step_calm (h.cfg_eq ▸ hlegal) hin hcalm hbus, ?_, ?_⟩
  · obtain ⟨-, -, -, -, -, -, -, -, -, hkept, -⟩ := seqUpdate_frame s b
    simp [hkept, hinb, hin]
  · rw [hseq]
    exact (hb.txStep_moves hlegal hwidth).imp (·.endCycle _ _) (And.imp_right (·.endCycle _ _))

theorem SendEnded.step_keeps {j : PortIn} {more : List PortIn} (hlegal : p.legal = true) (h : SendEnded p w s)
    (hin : s.inputs = j :: more) (hquiet : quiet j = true) :
    ∃ t, step s = .next t ∧ t.inputs = more ∧ SendEnded p w t := by
  have hbus : busUpdate s j = .next s := busUpdate_of_not_write ((quiet_iff j).1 hquiet).2
  refine ⟨_, step_calm (h.cfg_eq ▸ hlegal) hin (calm_of_quiet hquiet) hbus, ?_, ?_⟩
  · simp [seqUpdate_idle h.fsm_eq, hin]
  · rw [seqUpdate_idle h.fsm_eq]
    exact h.endCycle _ _

/-- Along the frame's cycles a SEND goes through its waveform and ends. -/
theorem SendAt.run_moves {during rest : List PortIn} (hlegal : p.legal = true) (hwidth : w.toNat ≤ p.wmax)
    (h : SendAt p f w 0 s) (hin : s.inputs = during ++ rest) (hcalm : ∀ j ∈ during, calm j = true)
    (hlen : during.length = bitCycles p * frameLength w) (hk : k ≤ during.length) :
    ∃ t, run k s = .next t ∧ t.inputs = during.drop k ++ rest ∧ SendProgress p f w k t := by
  have hstep {k s j more} (hlt : k < during.length) (hnow : SendProgress p f w k s) (hin : s.inputs = j :: more)
      (hcalm : calm j = true) : ∃ t, step s = .next t ∧ t.inputs = more ∧ SendProgress p f w (k + 1) t :=
    (hnow.sendAt (hlen ▸ hlt)).step_moves hlegal hwidth hin hcalm
  simpa only [Nat.zero_add] using run_along hstep k (.inl h) hin hcalm hk (by omega)

theorem SendEnded.run_keeps {after rest : List PortIn} (hlegal : p.legal = true) (h : SendEnded p w s)
    (hin : s.inputs = after ++ rest) (hquiet : ∀ j ∈ after, quiet j = true) (hk : k ≤ after.length) :
    ∃ t, run k s = .next t ∧ SendEnded p w t := by
  obtain ⟨t, hrun, -, hended⟩ := run_along (P := fun _ => SendEnded p w) (n := k)
    (fun _ hended => hended.step_keeps hlegal) k h hin hquiet hk (Nat.zero_add k).le
  exact ⟨t, hrun, hended⟩

end RunningSend

@[simp] theorem pad_drv (l : Bool) : pad (drv l) = { oe := true, o := l, pu := false } := by cases l <;> rfl

/-- Settles O41: `step_send`, then the waveform along the frame's cycles, then the released line along those after it. -/
theorem sendDrivesTheWaveform : Obligations.SendDrivesTheWaveform := by
  intro s w i during after rest hlegal hidle hwidth hrst hsend hin hlen hduring hafter
  replace hlen : during.length = bitCycles s.cfg * frameLength w := hlen
  rw [List.append_assoc] at hin
  obtain ⟨u, hstep, hinu, hat⟩ := step_send hlegal hidle hwidth hrst hsend hin
  have hsending (k) (hk : k ≤ during.length) : ∃ t, run (k + 1) s = .next t ∧
      t.inputs = during.drop k ++ (after ++ rest) ∧ SendProgress s.cfg (frameEncode s.txdata w.toNat) w k t := by
    rw [run_succ, hstep]
    exact hat.run_moves hlegal hwidth hinu hduring hlen hk
  refine ⟨fun k hk => ?_, fun k hk => ?_⟩
  · obtain ⟨t, hrun, -, hprogress⟩ := hsending k hk.le
    have hnow := hprogress.sendAt (hlen ▸ hk)
    have hlevel := hnow.level hlegal
    exact ⟨t, hrun, hnow.fsm_eq, hlevel, by simp [hlevel], by simp [hlevel]⟩
  · obtain ⟨e, hrun, hine, hprogress⟩ := hsending during.length le_rfl
    rw [hlen] at hprogress
    rw [List.drop_length, List.nil_append] at hine
    obtain ⟨t, hrunt, hended⟩ := (hprogress.sendEnded hlegal).run_keeps hlegal hine hafter hk
    exact ⟨t, (run_add hrun).trans hrunt, hended.fsm_eq, hended.line_eq, hended.done_eq, hended.bits_eq⟩

end Sys2Proof.Machine
end

section
/-!
PROOFS of the family 43_receive.md: one cycle of each receiver state (R82 to R85), the time of the sample (R83), and the
wait for a level that does not come, with a timeout (R86) and without one (R90).
-/

namespace Sys2Proof.Machine

/-! ### The cases of a receiver's cycle (43 R82 to R86) -/

/-- The receiver waits for a level that line_s does not have (43 R82, R84). -/
abbrev WaitsInVain (s : State) : Prop :=
  (s.fsm = .rxWaitHigh ∧ lineS s = true) ∨ (s.fsm = .rxWaitLow ∧ lineS s = false)

section ReceiverCases

variable {s : State} (b : State)

/-- Both wait states spend a cycle in vain alike: it counts, unless it is the one the timeout is due in. -/
theorem seqUpdate_waitsInVain (h : WaitsInVain s) :
    seqUpdate s b = if timeoutDue s then rxTimeout b else { b with wdog := s.wdog + 1 } := by
  rcases h with ⟨hfsm, hline⟩ | ⟨hfsm, hline⟩
  · simp [seqUpdate_rxWaitHigh hfsm, rxWaitHighStep, hline]
  · simp [seqUpdate_rxWaitLow hfsm, rxWaitLowStep, hline]

theorem rxWaitHighStep_edge (h : lineS s = false) :
    rxWaitHighStep s b = { b with fsm := .rxDelay, tcnt := countFor (sampleDelay s.cfg) } := if_pos h

theorem rxDelayStep_counting (h : s.tcnt ≠ 0) : rxDelayStep s b = { b with tcnt := s.tcnt - 1 } := if_pos h

theorem rxDelayStep_sample (h : s.tcnt = 0) :
    rxDelayStep s b = { b with rxsh := storeSample s, fsm := .rxWaitLow, wdog := 0 } := if_neg (not_not.2 h)

theorem rxWaitLowStep_released (h : lineS s = true) :
    rxWaitLowStep s b =
      if lastBit s then rxComplete s { b with bitidx := s.bitidx + 1, wdog := 0 }
      else { b with bitidx := s.bitidx + 1, wdog := 0, fsm := .rxWaitHigh } := if_pos h

end ReceiverCases

/-- FRAME_ERR after completion: set by a bad start or stop sample, else as it was (43 R85). -/
theorem or_framingBad (f : Bool) (b : Image) (w : Nat) :
    (f || framingBad b w) = if b.getLsbD 0 = true ∨ b.getLsbD (w + 1) = false then true else f := by
  split_ifs with hbad
  · rw [(framingBad_iff b w).2 hbad, Bool.or_true]
  · rw [Bool.eq_false_iff.2 (mt (framingBad_iff b w).1 hbad), Bool.or_false]

/-- A calm cycle spent in vain, when the timeout is due and when it is not. -/
theorem clock_waitsInVain {s b : State} {i : PortIn} (hlegal : s.cfg.legal = true) (hcalm : calm i = true)
    (hwait : WaitsInVain s) (hbus : busUpdate s i = .next b) :
    (s.cfg.timeoutCycles ≠ 0 → s.wdog.toNat = s.cfg.timeoutCycles - 1 →
      clock s i = .next { b with
        fsm := .idle, lineState := .idleHigh, tout := true, sync1 := i.lineI, sync2 := s.sync1 }) ∧
    (¬ (s.cfg.timeoutCycles ≠ 0 ∧ s.wdog.toNat = s.cfg.timeoutCycles - 1) →
      clock s i = .next { b with wdog := s.wdog + 1, sync1 := i.lineI, sync2 := s.sync1 }) := by
  rw [clock_calm hlegal hcalm hbus, seqUpdate_waitsInVain b hwait]
  refine ⟨fun htimeout hwdog => ?_, fun hnot => ?_⟩
  · rw [if_pos ((timeoutDue_iff s).2 ⟨htimeout, hwdog⟩)]
    rfl
  · rw [if_neg (mt (timeoutDue_iff s).1 hnot)]
    rfl

/-- Settles O37: a Low line_s is the falling edge, a High one a cycle spent in vain. -/
theorem receiverWaitsForTheFallingEdge : Obligations.ReceiverWaitsForTheFallingEdge := by
  intro s b i hlegal hcalm hfsm hbus
  have hvain (hline : s.sync2 = true) := clock_waitsInVain hlegal hcalm (.inl ⟨hfsm, hline⟩) hbus
  refine ⟨fun hline => ?_, fun hline => (hvain hline).1, fun hline => (hvain hline).2⟩
  rw [clock_calm hlegal hcalm hbus, seqUpdate_rxWaitHigh hfsm, rxWaitHighStep_edge b hline]
  rfl

/-- Settles O39: a High line_s ends the bit, a Low one is a cycle spent in vain. -/
theorem receiverEndsTheBit : Obligations.ReceiverEndsTheBit := by
  intro s b i hlegal hcalm hfsm hbus
  have hvain (hline : s.sync2 = false) := clock_waitsInVain hlegal hcalm (.inr ⟨hfsm, hline⟩) hbus
  have hreleased (hline : s.sync2 = true) := clock_calm hlegal hcalm hbus
  simp only [seqUpdate_rxWaitLow hfsm] at hreleased
  refine ⟨fun hline hlast => ?_, fun hline hmore => ?_, fun hline => (hvain hline).1, fun hline => (hvain hline).2⟩
  · rw [hreleased hline, rxWaitLowStep_released b hline, if_pos ((lastBit_iff s).2 hlast), ← or_framingBad]
    rfl
  · rw [hreleased hline, rxWaitLowStep_released b hline, if_neg (mt (lastBit_iff s).1 hmore)]
    rfl

/-! ### The sample's place (10 R28, 43 R83) -/

/-- The width of the image covers bit bitidx of a busy block. -/
theorem Inv.bitidx_lt_imageWidth {s : State} (h : Inv s) (hbusy : s.fsm ≠ .idle) :
    s.bitidx.toNat < imageWidth s.cfg := by
  have hbit := h.bitidx_lt hbusy
  have hwidth := h.width_le
  unfold imageWidth
  unfold frameLength at hbit
  omega

theorem imageWidth_le {p : Params} (h : p.legal = true) : imageWidth p ≤ 34 := by
  obtain ⟨-, ⟨-, hwmax⟩, -⟩ := (legal_iff p).1 h
  unfold imageWidth
  omega

theorem storeSample_getLsbD {s : State} (hlegal : s.cfg.legal = true) (hbit : s.bitidx.toNat < imageWidth s.cfg)
    (j : Nat) :
    (storeSample s).getLsbD j =
      (decide (j < imageWidth s.cfg) && if j = s.bitidx.toNat then lineS s else s.rxsh.getLsbD j) := by
  rw [storeSample, keepLow_getLsbD, setBit_getLsbD _ _ _ _ (hbit.trans_le (imageWidth_le hlegal))]

/-- The mask to WMAX + 2 bits loses nothing of a register that has no more. -/
theorem Inv.storeSample_bits {s : State} (h : Inv s) (hbusy : s.fsm ≠ .idle) (j : Nat) :
    (storeSample s).getLsbD j = if j = s.bitidx.toNat then s.sync2 else s.rxsh.getLsbD j := by
  have hbit := h.bitidx_lt_imageWidth hbusy
  rw [storeSample_getLsbD h.legal hbit]
  by_cases hj : j < imageWidth s.cfg
  · simp [hj, lineS]
  · have habove : s.rxsh.getLsbD j = false :=
      Nat.testBit_lt_two_pow (h.rxsh_bits.trans_le (Nat.pow_le_pow_right Nat.two_pos (Nat.le_of_not_lt hj)))
    have hother : j ≠ s.bitidx.toNat := by omega
    simp [hj, hother, habove]

/-! ### A busy block's calm cycle over listed inputs -/

/-- The host's reach in a calm cycle of a busy block ends before the receiver's registers (44 R93, 20 R35). -/
theorem busUpdate_busy_receiver {s b : State} {i : PortIn} (hbusy : s.fsm ≠ .idle) (hcalm : calm i = true)
    (hbus : busUpdate s i = .next b) :
    b.cfg = s.cfg ∧ b.fsm = s.fsm ∧ b.bitidx = s.bitidx ∧ b.rxdata = s.rxdata ∧ b.inputs = s.inputs := by
  obtain ⟨_, _, _, _, _, _, _, rfl⟩ := busUpdate_busy hbusy ((calm_iff i).1 hcalm).2 hbus
  exact ⟨rfl, rfl, rfl, rfl, rfl⟩

theorem step_calm_busy {s : State} {j : PortIn} {more : List PortIn} (hlegal : s.cfg.legal = true)
    (hbusy : s.fsm ≠ .idle) (hin : s.inputs = j :: more) (hcalm : calm j = true) :
    ∃ b t, busUpdate s j = .next b ∧ step s = .next t ∧
      t = passCycle (shiftSync s.sync1 j.lineI (seqUpdate s b)) ∧ t.inputs = more := by
  obtain ⟨b, hbus⟩ := busUpdate_answers_next s j
  refine ⟨b, _, hbus, step_calm hlegal hin hcalm hbus, rfl, ?_⟩
  obtain ⟨-, -, -, -, hkept⟩ := busUpdate_busy_receiver hbusy hcalm hbus
  obtain ⟨-, -, -, -, -, -, -, -, -, hseq, -⟩ := seqUpdate_frame s b
  simp [hseq, hkept, hin]

theorem run_succ_of_step {n : Nat} {s t u : State} (hrun : run n s = .next t) (hstep : step t = .next u) :
    run (n + 1) s = .next u := by
  rw [run_add hrun, run_succ, hstep]
  exact run_zero u

/-- `run_along` over all the listed cycles but the last, which is then the next one. -/
theorem run_along_to_last {P : Nat → State → Prop} {Q : PortIn → Prop} {n : Nat} {s : State} {ins rest : List PortIn}
    (hstep : ∀ {k s j more}, k < n → P k s → s.inputs = j :: more → Q j →
      ∃ t, step s = .next t ∧ t.inputs = more ∧ P (k + 1) t)
    (hP : P 0 s) (hin : s.inputs = ins ++ rest) (hQ : ∀ j ∈ ins, Q j) (hlen : ins.length = n + 1) :
    ∃ d j, run n s = .next d ∧ d.inputs = j :: rest ∧ Q j ∧ P n d := by
  have hlt : n < ins.length := by omega
  obtain ⟨d, hrun, hind, hPd⟩ := run_along hstep n hP hin hQ hlt.le (by omega)
  rw [List.drop_eq_getElem_cons hlt, List.drop_of_length_le hlen.le] at hind
  exact ⟨d, ins[n], hrun, hind, hQ _ (List.getElem_mem hlt), by simpa using hPd⟩

/-! ### From the falling edge to the sample (43 R82, R83) -/

/-- The count that RX_DELAY is loaded with, one below SAMPLE_DELAY (43 R82). -/
theorem countFor_sampleDelay {p : Params} (h : p.legal = true) :
    (countFor (sampleDelay p)).toNat + 1 = sampleDelay p := by
  have hmin := three_le_sampleDelay h
  have hmax := sampleDelay_le h
  rw [countFor, toNat_ofNat_of_lt] <;> omega

/-- k + 1 cycles after the detection of the edge of bit n, the sample is still to come. -/
structure DelayAt (p : Params) (n : BitVec 6) (k : Nat) (s : State) : Prop where
  cfg_eq : s.cfg = p
  fsm_eq : s.fsm = .rxDelay
  bitidx_eq : s.bitidx = n
  position : s.tcnt.toNat + (k + 1) = sampleDelay p

section SampleDelay

variable {p : Params} {n : BitVec 6} {k : Nat} {s : State} {j : PortIn} {more : List PortIn}

/-- The detection cycle (43 R82). -/
theorem step_detects (hlegal : s.cfg.legal = true) (hfsm : s.fsm = .rxWaitHigh) (hline : s.sync2 = false)
    (hin : s.inputs = j :: more) (hcalm : calm j = true) :
    ∃ t, step s = .next t ∧ t.inputs = more ∧ DelayAt s.cfg s.bitidx 0 t := by
  have hbusy : s.fsm ≠ .idle := by simp [hfsm]
  obtain ⟨b, t, hbus, hstep, rfl, hint⟩ := step_calm_busy hlegal hbusy hin hcalm
  obtain ⟨hcfg, -, hbit, -⟩ := busUpdate_busy_receiver hbusy hcalm hbus
  refine ⟨_, hstep, hint, ?_⟩
  rw [seqUpdate_rxWaitHigh hfsm, rxWaitHighStep_edge b hline]
  exact ⟨hcfg, rfl, hbit, countFor_sampleDelay hlegal⟩

theorem DelayAt.step_counts (hlegal : p.legal = true) (hk : k < sampleDelay p - 1) (h : DelayAt p n k s)
    (hin : s.inputs = j :: more) (hcalm : calm j = true) :
    ∃ t, step s = .next t ∧ t.inputs = more ∧ DelayAt p n (k + 1) t := by
  obtain ⟨rfl, hfsm, rfl, hposition⟩ := h
  have hcount : s.tcnt ≠ 0 := by bv_omega
  have hdown : (s.tcnt - 1).toNat + 1 = s.tcnt.toNat := by bv_omega
  have hbusy : s.fsm ≠ .idle := by simp [hfsm]
  obtain ⟨b, t, hbus, hstep, rfl, hint⟩ := step_calm_busy hlegal hbusy hin hcalm
  obtain ⟨hcfg, hstay, hbit, -⟩ := busUpdate_busy_receiver hbusy hcalm hbus
  refine ⟨_, hstep, hint, ?_⟩
  rw [seqUpdate_rxDelay hfsm, rxDelayStep_counting b hcount]
  refine ⟨hcfg, hstay.trans hfsm, hbit, ?_⟩
  calc (s.tcnt - 1).toNat + (k + 1 + 1) = s.tcnt.toNat + (k + 1) := by omega
    _ = sampleDelay s.cfg := hposition

/-- The count is at 0 in cycle SAMPLE_DELAY after the detection. -/
theorem DelayAt.tcnt_zero (h : DelayAt p n (sampleDelay p - 1) s) : s.tcnt = 0 := by
  have hposition := h.position
  bv_omega

/-- The sample's cycle (43 R83). -/
theorem step_samples (hlegal : s.cfg.legal = true) (hfsm : s.fsm = .rxDelay) (h0 : s.tcnt = 0)
    (hbit : s.bitidx.toNat < imageWidth s.cfg) (hin : s.inputs = j :: more) (hcalm : calm j = true) :
    ∃ t, step s = .next t ∧ t.fsm = .rxWaitLow ∧ t.rxsh.getLsbD s.bitidx.toNat = s.sync2 := by
  obtain ⟨b, t, -, hstep, rfl, -⟩ := step_calm_busy hlegal (by simp [hfsm]) hin hcalm
  refine ⟨_, hstep, ?_, ?_⟩ <;> rw [seqUpdate_rxDelay hfsm, rxDelayStep_sample b h0]
  · rfl
  · simp [storeSample_getLsbD hlegal hbit, hbit, lineS]

end SampleDelay

/-- Settles O38: one cycle of RX_DELAY by its two cases; the detection, the count from SAMPLE_DELAY - 1 to 0 and the
sample one after the other. -/
theorem receiverSamplesAfterTheDelay : Obligations.ReceiverSamplesAfterTheDelay := by
  refine ⟨fun s b i hinv hcalm hfsm hbus => ⟨fun hcount => ?_, fun h0 => ?_⟩,
    fun s ins rest hinv hfsm hline hin hlen hcalm => ?_⟩
  · rw [clock_calm hinv.legal hcalm hbus, seqUpdate_rxDelay hfsm, rxDelayStep_counting b hcount]
    rfl
  · refine ⟨storeSample s, hinv.storeSample_bits (by simp [hfsm]), ?_⟩
    rw [clock_calm hinv.legal hcalm hbus, seqUpdate_rxDelay hfsm, rxDelayStep_sample b h0]
    rfl
  · have hmin := three_le_sampleDelay hinv.legal
    obtain _ | ⟨i, ins⟩ := ins
    · simp at hlen
    obtain ⟨u, hdetect, hinu, hdelay⟩ := step_detects hinv.legal hfsm hline hin (hcalm i List.mem_cons_self)
    obtain ⟨d, j, hrun, hind, hcalmj, hatd⟩ :=
      run_along_to_last (fun hk => DelayAt.step_counts hinv.legal hk) hdelay hinu
        (fun j hj => hcalm j (List.mem_cons_of_mem i hj)) (by rw [List.length_cons] at hlen; omega)
    have hrund : run (sampleDelay s.cfg) s = .next d := by
      rw [← Nat.sub_add_cancel (by omega : 1 ≤ sampleDelay s.cfg), run_succ, hdetect]
      exact hrun
    have hbit : d.bitidx.toNat < imageWidth d.cfg := by
      rw [hatd.bitidx_eq, hatd.cfg_eq]
      exact hinv.bitidx_lt_imageWidth (by simp [hfsm])
    obtain ⟨t, hsample, hlow, hvalue⟩ :=
      step_samples (hatd.cfg_eq ▸ hinv.legal) hatd.fsm_eq hatd.tcnt_zero hbit hind hcalmj
    rw [hatd.bitidx_eq] at hvalue
    exact ⟨d, t, hrund, hatd.fsm_eq, hatd.tcnt_zero, run_succ_of_step hrund hsample, hlow, hvalue⟩

/-! ### A wait on a wire that keeps its level (43 R86, R90) -/

/-- What the timeout of a RECEIVE does not write, as it was in s: RXDATA and BITIDX, and DONE and FRAME_ERR where
`unwritten` says that the host has not cleared them by a write to STATUS (43 R86, 10 R25). -/
structure ResultKept (unwritten : Prop) (s t : State) : Prop where
  rxdata_eq : t.rxdata = s.rxdata
  bitidx_eq : t.bitidx = s.bitidx
  done_imp : t.done = true → s.done = true
  ferr_imp : t.ferr = true → s.ferr = true
  flags_eq : unwritten → t.done = s.done ∧ t.ferr = s.ferr

theorem ResultKept.refl (c : Prop) (s : State) : ResultKept c s s := ⟨rfl, rfl, id, id, fun _ => ⟨rfl, rfl⟩⟩

theorem ResultKept.trans {c d : Prop} {s t u : State} (hst : ResultKept c s t) (htu : ResultKept d t u) (hcd : c → d) :
    ResultKept c s u where
  rxdata_eq := htu.rxdata_eq.trans hst.rxdata_eq
  bitidx_eq := htu.bitidx_eq.trans hst.bitidx_eq
  done_imp := hst.done_imp ∘ htu.done_imp
  ferr_imp := hst.ferr_imp ∘ htu.ferr_imp
  flags_eq hc := by
    obtain ⟨hdone, hferr⟩ := hst.flags_eq hc
    obtain ⟨hdone', hferr'⟩ := htu.flags_eq (hcd hc)
    exact ⟨hdone'.trans hdone, hferr'.trans hferr⟩

theorem busUpdate_resultKept {s b : State} {i : PortIn} (hbusy : s.fsm ≠ .idle) (hcalm : calm i = true)
    (hbus : busUpdate s i = .next b) : ResultKept (¬ writesRegister i 1) s b := by
  obtain ⟨-, -, hbit, hrxdata, -⟩ := busUpdate_busy_receiver hbusy hcalm hbus
  obtain ⟨hdone, hferr, -⟩ := busUpdate_sequencerFlags hbus
  refine ⟨hrxdata, hbit, fun h => (hdone.1 h).1, fun h => (hferr.1 h).1, fun hstatus => ⟨?_, ?_⟩⟩
  · exact Bool.eq_iff_iff.2 (hdone.trans (and_iff_left fun hclear => hstatus hclear.1))
  · exact Bool.eq_iff_iff.2 (hferr.trans (and_iff_left fun hclear => hstatus hclear.1))

/-- The receiver waits in state f, and both synchroniser stages hold l. -/
structure WaitAt (p : Params) (f : Fsm) (l : Bool) (s : State) : Prop where
  cfg_eq : s.cfg = p
  fsm_eq : s.fsm = f
  sync1_eq : s.sync1 = l
  sync2_eq : s.sync2 = l

/-- l is the level that does not end the wait state f (43 R82, R84). -/
abbrev KeepsWaiting (f : Fsm) (l : Bool) : Prop := f = .rxWaitHigh ∧ l = true ∨ f = .rxWaitLow ∧ l = false

section KeptLevel

variable {p : Params} {f : Fsm} {l : Bool} {s : State} {j : PortIn} {more : List PortIn}

theorem KeepsWaiting.busy (h : KeepsWaiting f l) : f ≠ .idle := by
  rcases h with ⟨rfl, -⟩ | ⟨rfl, -⟩ <;> nofun

theorem WaitAt.waitsInVain (hwait : KeepsWaiting f l) (h : WaitAt p f l s) : WaitsInVain s := by
  obtain ⟨-, rfl, -, rfl⟩ := h
  exact hwait

/-- A wait goes on while the wire keeps its level and no timeout is due. -/
theorem WaitAt.step_stays (hlegal : p.legal = true) (hwait : KeepsWaiting f l) (h : WaitAt p f l s)
    (hdue : timeoutDue s = false) (hin : s.inputs = j :: more) (hcalm : calm j = true) (hline : j.lineI = l) :
    ∃ t, step s = .next t ∧ t.inputs = more ∧ WaitAt p f l t ∧ t.wdog = s.wdog + 1 ∧
      ResultKept (¬ writesRegister j 1) s t := by
  have hbusy : s.fsm ≠ .idle := h.fsm_eq ▸ hwait.busy
  obtain ⟨b, t, hbus, hstep, rfl, hint⟩ := step_calm_busy (h.cfg_eq ▸ hlegal) hbusy hin hcalm
  obtain ⟨hcfg, hfsm, -⟩ := busUpdate_busy_receiver hbusy hcalm hbus
  obtain ⟨hrxdata, hbit, hdone, hferr, hflags⟩ := busUpdate_resultKept hbusy hcalm hbus
  refine ⟨_, hstep, hint, ?_⟩
  rw [seqUpdate_waitsInVain b (h.waitsInVain hwait), if_neg (by simp [hdue])]
  exact ⟨⟨hcfg.trans h.cfg_eq, hfsm.trans h.fsm_eq, hline, h.sync1_eq⟩, rfl, hrxdata, hbit, hdone, hferr, hflags⟩

/-- The cycle in which the timeout is due ends the RECEIVE (43 R86). -/
theorem WaitAt.step_timesOut (hlegal : p.legal = true) (hwait : KeepsWaiting f l) (h : WaitAt p f l s)
    (hdue : timeoutDue s = true) (hin : s.inputs = j :: more) (hcalm : calm j = true) :
    ∃ t, step s = .next t ∧ t.fsm = .idle ∧ t.lineState = .idleHigh ∧ t.tout = true ∧
      ResultKept (¬ writesRegister j 1) s t := by
  have hbusy : s.fsm ≠ .idle := h.fsm_eq ▸ hwait.busy
  obtain ⟨b, t, hbus, hstep, rfl, -⟩ := step_calm_busy (h.cfg_eq ▸ hlegal) hbusy hin hcalm
  obtain ⟨hrxdata, hbit, hdone, hferr, hflags⟩ := busUpdate_resultKept hbusy hcalm hbus
  refine ⟨_, hstep, ?_⟩
  rw [seqUpdate_waitsInVain b (h.waitsInVain hwait), if_pos hdue]
  exact ⟨rfl, rfl, rfl, hrxdata, hbit, hdone, hferr, hflags⟩

end KeptLevel

theorem timeoutDue_of_no_timeout {s : State} (h : s.cfg.timeoutCycles = 0) : timeoutDue s = false := by
  simp [timeoutDue, h]

theorem WaitAt.run_stays {p : Params} {f : Fsm} {l : Bool} {s : State} {ins rest : List PortIn}
    (hlegal : p.legal = true) (htimeout : p.timeoutCycles = 0) (hwait : KeepsWaiting f l) (h : WaitAt p f l s)
    (hin : s.inputs = ins ++ rest) (hcalm : ∀ j ∈ ins, calm j = true) (hline : ∀ j ∈ ins, j.lineI = l) :
    ∃ t, run ins.length s = .next t ∧ t.fsm = f := by
  have hstep {k : Nat} {s : State} {j : PortIn} {more : List PortIn} (_ : k < ins.length) (hat : WaitAt p f l s)
      (hin : s.inputs = j :: more) (hj : j ∈ ins) : ∃ t, step s = .next t ∧ t.inputs = more ∧ WaitAt p f l t := by
    have hdue : timeoutDue s = false := timeoutDue_of_no_timeout (hat.cfg_eq ▸ htimeout)
    obtain ⟨t, hstep, hint, hstay, -⟩ := hat.step_stays hlegal hwait hdue hin (hcalm j hj) (hline j hj)
    exact ⟨t, hstep, hint, hstay⟩
  obtain ⟨t, hrun, -, hstay⟩ :=
    run_along (P := fun _ => WaitAt p f l) hstep ins.length h hin (fun _ hj => hj) le_rfl (Nat.zero_add _).le
  exact ⟨t, hrun, hstay.fsm_eq⟩

/-- Settles O43: without a timeout none is due, in whatever cycle. -/
theorem receiverWaitsWithoutBound : Obligations.ReceiverWaitsWithoutBound := by
  intro s ins rest hlegal htimeout hin hcalm
  refine ⟨fun hfsm hsync1 hsync2 hline => ?_, fun hfsm hsync1 hsync2 hline => ?_⟩
  · exact WaitAt.run_stays hlegal htimeout (.inl ⟨rfl, rfl⟩) ⟨rfl, hfsm, hsync1, hsync2⟩ hin hcalm hline
  · exact WaitAt.run_stays hlegal htimeout (.inr ⟨rfl, rfl⟩) ⟨rfl, hfsm, hsync1, hsync2⟩ hin hcalm hline

/-! ### The timeout (43 R86) -/

/-- In its cycle k, a wait that began in `start` has counted k cycles and left the last result as it was. -/
structure WaitedSince (start : State) (unwritten : Prop) (l : Bool) (k : Nat) (s : State) : Prop where
  waitAt : WaitAt start.cfg start.fsm l s
  wdog_eq : s.wdog.toNat = k
  result : ResultKept unwritten start s

section Timeout

variable {start : State} {unwritten : Prop} {l : Bool} {k : Nat} {s : State} {j : PortIn} {more : List PortIn}

theorem WaitedSince.due_iff (h : WaitedSince start unwritten l k s) (htimeout : start.cfg.timeoutCycles ≠ 0) :
    timeoutDue s = true ↔ k = start.cfg.timeoutCycles - 1 := by
  rw [timeoutDue_iff, h.waitAt.cfg_eq, h.wdog_eq, and_iff_right htimeout]

theorem WaitedSince.step_stays (hlegal : start.cfg.legal = true) (htimeout : start.cfg.timeoutCycles ≠ 0)
    (hwait : KeepsWaiting start.fsm l) (hk : k < start.cfg.timeoutCycles - 1)
    (h : WaitedSince start unwritten l k s) (hin : s.inputs = j :: more) (hcalm : calm j = true) (hline : j.lineI = l)
    (hstatus : unwritten → ¬ writesRegister j 1) :
    ∃ t, step s = .next t ∧ t.inputs = more ∧ WaitedSince start unwritten l (k + 1) t := by
  have hdue : timeoutDue s = false := Bool.eq_false_iff.2 (mt (h.due_iff htimeout).1 hk.ne)
  obtain ⟨t, hstep, hint, hstay, hcount, hkept⟩ := h.waitAt.step_stays hlegal hwait hdue hin hcalm hline
  refine ⟨t, hstep, hint, hstay, ?_, h.result.trans hkept hstatus⟩
  have hwdog := h.wdog_eq
  obtain ⟨-, -, -, hmax⟩ := (legal_iff start.cfg).1 hlegal
  rw [hcount]
  bv_omega

end Timeout

/-- A wait in vain lasts TIMEOUT_CYCLES cycles and then ends in IDLE, IDLE_HIGH and TIMEOUT. -/
theorem WaitedSince.run_timesOut {s : State} {l : Bool} {ins rest : List PortIn} (hlegal : s.cfg.legal = true)
    (htimeout : s.cfg.timeoutCycles ≠ 0) (hwait : KeepsWaiting s.fsm l)
    (hbegun : WaitedSince s (∀ j ∈ ins, ¬ writesRegister j 1) l 0 s) (hin : s.inputs = ins ++ rest)
    (hlen : ins.length = s.cfg.timeoutCycles) (hins : ∀ j ∈ ins, calm j = true ∧ j.lineI = l) :
    (∀ k, k < ins.length → ∃ t, run k s = .next t ∧ t.fsm = s.fsm) ∧
    (∃ t, run ins.length s = .next t ∧ t.fsm = .idle ∧ t.lineState = .idleHigh ∧ t.tout = true ∧
      ResultKept (∀ j ∈ ins, ¬ writesRegister j 1) s t) := by
  have hstep {k t j more} (hk : k < s.cfg.timeoutCycles - 1)
      (hat : WaitedSince s (∀ j ∈ ins, ¬ writesRegister j 1) l k t) (hint : t.inputs = j :: more) (hj : j ∈ ins) :=
    hat.step_stays hlegal htimeout hwait hk hint (hins j hj).1 (hins j hj).2 fun hstatus => hstatus j hj
  refine ⟨fun k hk => ?_, ?_⟩
  · obtain ⟨t, hrun, -, hat⟩ := run_along hstep k hbegun hin (fun _ hj => hj) hk.le (by omega)
    exact ⟨t, hrun, hat.waitAt.fsm_eq⟩
  · obtain ⟨d, j, hrun, hind, hj, hat⟩ := run_along_to_last hstep hbegun hin (fun _ hj => hj) (by omega)
    have hdue : timeoutDue d = true := (hat.due_iff htimeout).2 rfl
    obtain ⟨t, hlast, hidle, hhigh, htout, hkept⟩ := hat.waitAt.step_timesOut hlegal hwait hdue hind (hins j hj).1
    have hcycles : ins.length = s.cfg.timeoutCycles - 1 + 1 := by omega
    exact ⟨t, hcycles ▸ run_succ_of_step hrun hlast, hidle, hhigh, htout,
      hat.result.trans hkept fun hstatus => hstatus j hj⟩

/-- With TIMEOUT_CYCLES = 0 no timeout is ever due, and nothing else sets TIMEOUT. -/
theorem clock_tout_of_no_timeout {s t : State} {i : PortIn} (htimeout : s.cfg.timeoutCycles = 0)
    (hclock : clock s i = .next t) (htout : t.tout = true) : s.tout = true := by
  obtain ⟨-, ⟨-, rfl⟩ | ⟨-, b, hbus, rfl⟩⟩ := clock_eq_next.1 hclock
  · simp at htout
  obtain ⟨-, -, hkept⟩ := busUpdate_sequencerFlags hbus
  rcases (finishCycle_tout s b i).1 htout with hb | ⟨-, hdue, -⟩
  · exact (hkept.1 hb).1
  · simp [timeoutDue_of_no_timeout htimeout] at hdue

/-- Settles O44: `WaitedSince.run_timesOut` from the wait's first cycle, and `clock_tout_of_no_timeout`. -/
theorem receiveTimesOutAfterTimeoutCycles : Obligations.ReceiveTimesOutAfterTimeoutCycles := by
  refine ⟨fun s l ins rest hlegal htimeout hwdog hwait hsync1 hsync2 hin hlen hins => ?_,
    fun s t i => clock_tout_of_no_timeout⟩
  have hbegun : WaitedSince s (∀ j ∈ ins, ¬ writesRegister j 1) l 0 s :=
    ⟨⟨rfl, rfl, hsync1, hsync2⟩, by simp [hwdog], ResultKept.refl _ s⟩
  obtain ⟨hwaits, t, hrun, hidle, hhigh, htout, hrxdata, hbit, hdone, hferr, hflags⟩ :=
    hbegun.run_timesOut hlegal htimeout hwait hin hlen hins
  exact ⟨hwaits, t, hrun, hidle, hhigh, htout, hrxdata, hbit, hdone, hferr, hflags⟩

end Sys2Proof.Machine
end

section
/-!
PROOFS of the family 44_control.md: the write to CMD, its checks in order (R92), the rejection of a command while busy
(R93), and what a rejected command leaves (R94).
-/

namespace Sys2Proof.Machine

/-! ### The commands of a busy block (44 R93) -/

/-- The busy check stands before everything else that a command other than NOP and ABORT does. -/
theorem exec_busy_rejects {c : Instr} {s : State} (hs : s.fsm ≠ .idle) (hnop : c ≠ .nop) (habort : c ≠ .abort) :
    exec c s = .next (raiseCmdErr 3 s) := by
  cases c with
  | nop => exact absurd rfl hnop
  | abort => exact absurd rfl habort
  | send w => exact whenIdle_busy hs _
  | receive w => exact whenIdle_busy hs _
  | setOut l => exact whenIdle_busy hs _
  | setIn p => exact whenIdle_busy hs _
  | write l => exact whenIdle_busy hs _
  | read => exact whenIdle_busy hs _

/-- Settles O14: `exec_busy_rejects`, with `raiseCmdErr` written out. -/
theorem busyRejectsEveryOtherCommand : Obligations.BusyRejectsEveryOtherCommand := fun _ _ => exec_busy_rejects

/-! ### The commands of an idle block (44 R92) -/

/-- Only SEND and RECEIVE can be too wide, and for both the width is the check after the busy check. -/
theorem exec_idle_too_wide {c : Instr} {s : State} (hs : s.fsm = .idle) (hwide : c.wellFormed s.cfg = false) :
    exec c s = .next (raiseCmdErr 4 s) := by
  cases c with
  | send w => exact (whenIdle_idle hs _).trans (whenFits_gt (not_le.1 (of_decide_eq_false hwide)) _)
  | receive w => exact (whenIdle_idle hs _).trans (whenFits_gt (not_le.1 (of_decide_eq_false hwide)) _)
  | nop | setOut _ | setIn _ | write _ | read | abort => cases hwide

section IdleArms

variable {s : State} (hs : s.fsm = .idle)
include hs

theorem exec_idle_send {w : BitVec 6} (hw : w.toNat ≤ s.cfg.wmax) : exec (.send w) s = .next (txAccept w s) :=
  (whenIdle_idle hs _).trans (whenFits_le hw _)

theorem exec_idle_receive {w : BitVec 6} (hw : w.toNat ≤ s.cfg.wmax) : exec (.receive w) s = .next (rxAccept w s) :=
  (whenIdle_idle hs _).trans (whenFits_le hw _)

theorem exec_idle_setOut (l : Bool) : exec (.setOut l) s = .next (setLine (drv l) s) := whenIdle_idle hs _

theorem exec_idle_setIn (p : Bool) : exec (.setIn p) s = .next (setLine (pulled p) s) := whenIdle_idle hs _

/-- WRITE asks for output mode (40 R64). -/
theorem exec_idle_write (l : Bool) :
    exec (.write l) s = if s.lineState = .drivenLow ∨ s.lineState = .drivenHigh then .next (setLine (drv l) s)
      else .next (raiseCmdErr 5 s) :=
  (whenIdle_idle hs _).trans (if_congr (outputMode_eq_true _) rfl rfl)

/-- READ asks for input mode (40 R65). -/
theorem exec_idle_read :
    exec .read s = if s.lineState = .idleHigh ∨ s.lineState = .floatingInput then .next (setRxdata (lineWord s) s)
      else .next (raiseCmdErr 6 s) :=
  (whenIdle_idle hs _).trans (if_congr (inputMode_eq_true _) rfl rfl)

end IdleArms

theorem lineWord_eq (s : State) : lineWord s = if s.sync2 then 1 else 0 := by
  unfold lineWord lineS
  cases s.sync2 <;> rfl

/-- ABORT is the one command with a meaning of its own in a busy and in an idle block (44 R97). -/
theorem exec_abort (s : State) :
    exec .abort s = if s.fsm = .idle then .next s else .next (abortRunning s) := by
  by_cases hs : s.fsm = .idle <;> simp [exec, execAbort, hs]

/-! ### A write to CMD: its decode, then the command (44 R92) -/

theorem busUpdate_of_writesCmd {s : State} {i : PortIn} (h : writesRegister i 0) :
    busUpdate s i = cmdWrite s i.busWdata := by
  obtain ⟨hkind, hreg⟩ := h
  exact (busUpdate_of_write hkind).trans (registerWrite_congr s _ (a' := 0x00) hreg)

theorem cmdWrite_of_bad {v : Word} {e : DecodeError} (s : State) (h : decode v = .bad e) :
    cmdWrite s v = .next (raiseCmdErr (decodeCause e) s) := by
  simp [cmdWrite, h]

theorem cmdWrite_of_cmd {v : Word} {c : Instr} (s : State) (h : decode v = .cmd c) : cmdWrite s v = exec c s := by
  simp [cmdWrite, h]

/-- Settles O16: a word that decodes is executed (`cmdWrite_of_cmd`), and each arm is the command's equation in a busy
or in an idle block. -/
theorem cmdWriteChecksInOrder : Obligations.CmdWriteChecksInOrder := by
  refine ⟨fun s i hop hreg => busUpdate_of_writesCmd ⟨(busKind_eq_write _).2 hop, hreg⟩,
    fun s v hbad => cmdWrite_of_bad s hbad, fun s v hbad => cmdWrite_of_bad s hbad,
    fun s v hnop => cmdWrite_of_cmd s hnop,
    fun s v habort => (cmdWrite_of_cmd s habort).trans (exec_abort s),
    fun s v c hcmd hnop habort hbusy => (cmdWrite_of_cmd s hcmd).trans (exec_busy_rejects hbusy hnop habort),
    fun s v c hcmd hidle hwide => (cmdWrite_of_cmd s hcmd).trans (exec_idle_too_wide hidle hwide),
    fun s v w hsend hidle hw => (cmdWrite_of_cmd s hsend).trans (exec_idle_send hidle hw),
    fun s v w hreceive hidle hw => (cmdWrite_of_cmd s hreceive).trans (exec_idle_receive hidle hw),
    fun s v l hsetOut hidle => (cmdWrite_of_cmd s hsetOut).trans (exec_idle_setOut hidle l),
    fun s v p hsetIn hidle => (cmdWrite_of_cmd s hsetIn).trans (exec_idle_setIn hidle p),
    fun s v l hwrite hidle => (cmdWrite_of_cmd s hwrite).trans (exec_idle_write hidle l),
    fun s v hread hidle => ?_⟩
  rw [cmdWrite_of_cmd s hread, exec_idle_read hidle, lineWord_eq]
  rfl

/-! ### What a rejected command leaves (44 R94) -/

/-- The sequencer neither reads nor writes the error record, so it goes on beside a rejected command. -/
theorem seqUpdate_raiseCmdErr (k : BitVec 3) (s t : State) :
    seqUpdate s (raiseCmdErr k t) = raiseCmdErr k (seqUpdate s t) := by
  have hraise (x : State) : raiseCmdErr k x = withFlags { flagsOf x with cerr := true, ecause := k } x := rfl
  rw [hraise, hraise, seqUpdate_withFlags, flagsOf_seqUpdate]
  rfl

/-- The cycle of a rejected command is the cycle without it, and the error record. -/
theorem clock_of_rejected {s u : State} {i : PortIn} {k : BitVec 3} (hrst : i.rst = false)
    (hbus : busUpdate s i = .next (raiseCmdErr k s)) (hlive : abortWins s i = false)
    (hnone : clock s { i with busOp := 0 } = .next u) : clock s i = .next (raiseCmdErr k u) := by
  obtain ⟨hlegal, -⟩ := clock_eq_next.1 hnone
  obtain ⟨b, hidle, rfl⟩ := clock_of_no_reset hnone hrst
  obtain rfl := next_inj.1 ((busUpdate_of_not_write (i := { i with busOp := 0 }) nofun).symm.trans hidle)
  refine clock_eq_next.2 ⟨hlegal, .inr ⟨hrst, _, hbus, ?_⟩⟩
  rw [finishCycle_of_no_abort hlive, seqUpdate_raiseCmdErr,
    finishCycle_of_no_abort (i := { i with busOp := 0 }) (abortWins_of_not_writesCmd nofun)]
  rfl

/-- CMD_ERR is sticky: besides reset, only its write-one-to-clear bit takes it back (10 R25). -/
theorem clock_keeps_cerr {s t : State} {i : PortIn} (hclock : clock s i = .next t) (hcerr : s.cerr = true)
    (hrst : i.rst = false) (hclear : ¬ (writesRegister i 1 ∧ i.busWdata.getLsbD 7 = true)) : t.cerr = true := by
  obtain ⟨b, hbus, rfl⟩ := clock_of_no_reset hclock hrst
  obtain ⟨-, cerrCleared, -⟩ := busUpdate_errorRecord hbus
  obtain ⟨hsame, -⟩ := finishCycle_hostFlags s b i
  rw [hsame, ← Bool.not_eq_false]
  exact mt (cerrCleared hcerr) hclear

/-- Settles O23: `clock_of_rejected` for a write to CMD that is no ABORT, and `clock_keeps_cerr`. -/
theorem rejectionSetsOnlyTheErrorRecord : Obligations.RejectionSetsOnlyTheErrorRecord := by
  refine ⟨fun s u i k hrst hwrite hreject habort hnone => ?_, fun s t i => clock_keeps_cerr⟩
  have hlive : abortWins s i = false := by simp [abortWins, habort]
  exact clock_of_rejected hrst ((busUpdate_of_writesCmd hwrite).trans hreject) hlive hnone

end Sys2Proof.Machine
end

section
/-!
PROOFS of the family 60_exceptions.md: the idle block (R109).
-/

namespace Sys2Proof.Machine

/-- In a quiet cycle the bus operation assigns nothing, so only the sequencer and the synchroniser act (10 R30). -/
theorem clock_quiet {s : State} {i : PortIn} (hlegal : s.cfg.legal = true) (hquiet : quiet i = true) :
    clock s i = .next (shiftSync s.sync1 i.lineI (seqUpdate s s)) :=
  clock_calm hlegal (calm_of_quiet hquiet) (busUpdate_of_not_write ((quiet_iff i).1 hquiet).2)

/-- Settles O31: the sequencer of an idle block assigns nothing either (`seqUpdate_idle`), which leaves the
synchroniser's shift of `clock_quiet`. -/
theorem idleBlockChangesOnlyItsSynchroniser : Obligations.IdleBlockChangesOnlyItsSynchroniser := by
  intro s i hlegal hidle hquiet
  calc clock s i
    _ = .next (shiftSync s.sync1 i.lineI (seqUpdate s s)) := clock_quiet hlegal hquiet
    _ = .next (shiftSync s.sync1 i.lineI s) := by rw [seqUpdate_idle hidle]
    _ = .next { s with sync1 := i.lineI, sync2 := s.sync1 } := rfl

end Sys2Proof.Machine
end

section
/-!
PROOFS of the family 70_reset_and_hazards.md: the cycle of a reset (R110).
-/

namespace Sys2Proof.Machine

/-- A cycle with `rst = 1` looks at nothing of the state but whether its parameters are legal (00 R7, 70 R110). -/
theorem clock_eq_toReset {s : State} {i : PortIn} (hlegal : s.cfg.legal = true) (hrst : i.rst = true) :
    clock s i = .next (toReset s) :=
  clock_eq_next.2 ⟨hlegal, .inl ⟨hrst, rfl⟩⟩

/-- STATUS shows registers only, so what a reset keeps, the parameters and the environment, does not appear in it. -/
theorem statusWord_toReset (s : State) : statusWord (toReset s) = 0x00000008 := by
  calc statusWord (toReset s)
    _ = statusWord (State.resetWith s.cfg) := rfl
    _ = 0x00000008 := statusWord_resetWith s.cfg

theorem pad_toReset (s : State) : pad (toReset s).lineState = { oe := false, o := true, pu := true } :=
  congrArg pad (toReset_lineState s)

theorem readValue_info_toReset (s : State) : readValue (toReset s) 0x1C = infoWord s.cfg :=
  (readValue_info (toReset s)).trans (congrArg infoWord (toReset_cfg s))

/-- Settles O46: the next state is `toReset s` (`clock_eq_toReset`), whose registers hold the values of the reset table,
and the pad, STATUS and INFO follow from them; the outputs of the reset cycle itself are still those of `s`. -/
theorem resetReplacesEveryRegister : Obligations.ResetReplacesEveryRegister := fun s _ hlegal hrst =>
  ⟨toReset s, clock_eq_toReset hlegal hrst,
    toReset_fsm s, toReset_lineState s, toReset_sync1 s, toReset_sync2 s, toReset_width s, toReset_bitidx s,
    toReset_phase s, toReset_tcnt s, toReset_wdog s, toReset_rxsh s, toReset_txdata s, toReset_rxdata s, toReset_done s,
    toReset_ferr s, toReset_tout s, toReset_cerr s, toReset_abrt s, toReset_ecause s, toReset_frame s,
    toReset_cfg s, pad_toReset s, statusWord_toReset s, readValue_info_toReset s, rfl⟩

end Sys2Proof.Machine
end

section
/-!
PROOFS of the family other, the command word: `decode` and `encode` are inverse (30 R52), the count of the words that
decode (R53), and the words of the decode vectors (95 V2).
-/

namespace Sys2Proof

/-! ### The fields of a command word (30 R48) -/

section CommandWord

variable (arg : Bool) (w : BitVec 6) (op : BitVec 4)

@[simp] theorem opField_commandWord : opField (commandWord arg w op) = op :=
  BitVec.extractLsb'_append_eq_right

@[simp] theorem widthField_commandWord : widthField (commandWord arg w op) = w :=
  Machine.extractLsb'_append_skip (by decide) BitVec.extractLsb'_append_eq_right

@[simp] theorem argField_commandWord : argField (commandWord arg w op) = arg := by
  have hbit : BitVec.ofBool (argField (commandWord arg w op)) = BitVec.ofBool arg :=
    (ofBool_argField _).trans <| Machine.extractLsb'_append_skip (by decide) <|
      Machine.extractLsb'_append_skip (by decide) BitVec.extractLsb'_append_eq_right
  simpa using congrArg (BitVec.getLsbD · 0) hbit

@[simp] theorem resField_commandWord : resField (commandWord arg w op) = 0 :=
  Machine.extractLsb'_append_skip (by decide) <| Machine.extractLsb'_append_skip (by decide) <|
    Machine.extractLsb'_append_skip (by decide) BitVec.extractLsb'_eq_self

end CommandWord

/-! ### A command is the decode of its own word (30 R52) -/

/-- The word of a command has the command's opcode and no field set that the opcode does not use. -/
theorem decode_encode (i : Instr) : decode (encode i) = .cmd i := by
  have hclauses (arg : Bool) (w : BitVec 6) (op : BitVec 4) := decode_of_opcode (resField_commandWord arg w op)
  simp only [opField_commandWord, widthField_commandWord, argField_commandWord] at hclauses
  cases i with
  | nop =>
    obtain ⟨hnop, -⟩ := hclauses false 0 0
    exact hnop rfl
  | send w =>
    obtain ⟨-, hsend, -⟩ := hclauses false w 1
    exact hsend rfl
  | receive w =>
    obtain ⟨-, -, hreceive, -⟩ := hclauses false w 2
    exact hreceive rfl
  | setOut l =>
    obtain ⟨-, -, -, hsetOut, -⟩ := hclauses l 0 3
    exact hsetOut rfl
  | setIn p =>
    obtain ⟨-, -, -, -, hsetIn, -⟩ := hclauses p 0 4
    exact hsetIn rfl
  | write l =>
    obtain ⟨-, -, -, -, -, hwrite, -⟩ := hclauses l 0 5
    exact hwrite rfl
  | read =>
    obtain ⟨-, -, -, -, -, -, hread, -⟩ := hclauses false 0 6
    exact hread rfl
  | abort =>
    obtain ⟨-, -, -, -, -, -, -, habort⟩ := hclauses false 0 7
    exact habort rfl

/-- Settles O1: `eq_encode_of_decode` one way, `decode_encode` the other. -/
theorem decodeInvertsEncode : Obligations.DecodeInvertsEncode := by
  refine fun c i => ⟨eq_encode_of_decode, ?_⟩
  rintro rfl
  exact decode_encode i

/-! ### The count of the words that decode (30 R53) -/

theorem encode_injective : Function.Injective encode := fun i j h =>
  Decoded.cmd.inj ((decode_encode i).symm.trans ((congrArg decode h).trans (decode_encode j)))

/-- The 64 values of a width field. -/
def allWidths : List (BitVec 6) := (List.finRange 64).map BitVec.ofFin

theorem mem_allWidths (w : BitVec 6) : w ∈ allWidths := List.mem_map.2 ⟨w.toFin, List.mem_finRange _, rfl⟩

theorem nodup_allWidths : allWidths.Nodup :=
  (List.nodup_finRange 64).map fun _ _ h => congrArg BitVec.toFin h

/-- Every command with every operand, opcode by opcode as R53 counts them. -/
def allInstrs : List Instr :=
  [.nop] ++ allWidths.map .send ++ allWidths.map .receive ++ [false, true].map .setOut ++ [false, true].map .setIn ++
    [false, true].map .write ++ [.read] ++ [.abort]

theorem length_allInstrs : allInstrs.length = 137 := by
  simp [allInstrs, allWidths]

theorem mem_allInstrs (i : Instr) : i ∈ allInstrs := by
  cases i <;> simp [allInstrs, mem_allWidths]

/-- No two opcodes share a command, and within an opcode the operands differ. -/
theorem nodup_allInstrs : allInstrs.Nodup := by
  have hsend : (allWidths.map Instr.send).Nodup := nodup_allWidths.map fun _ _ => Instr.send.inj
  have hreceive : (allWidths.map Instr.receive).Nodup := nodup_allWidths.map fun _ _ => Instr.receive.inj
  simp +contextual [allInstrs, List.nodup_append, hsend, hreceive, or_imp, forall_and]

/-- Settles O3: the words of all the commands, which are different since `encode` is injective. -/
theorem exactlyOneHundredThirtySevenWordsDecode : Obligations.ExactlyOneHundredThirtySevenWordsDecode := by
  refine ⟨allInstrs.map encode, ?_, nodup_allInstrs.map encode_injective, fun c => ⟨?_, fun hc => ?_⟩⟩
  · rw [List.length_map, length_allInstrs]
  · rintro ⟨i, hi⟩
    exact List.mem_map.2 ⟨i, mem_allInstrs i, (eq_encode_of_decode hi).symm⟩
  · obtain ⟨i, -, rfl⟩ := List.mem_map.1 hc
    exact ⟨i, decode_encode i⟩

/-! ### The decode vectors (95 V2) -/

/-- Settles O5: the words that decode are words of `encode`, the others fail a check of the decoder. -/
theorem tableWordsDecode : Obligations.TableWordsDecode := by
  refine ⟨decode_encode .nop, decode_encode (.send 3), decode_encode (.send 32), decode_encode (.send 33),
    decode_encode (.send 63), decode_encode (.receive 3), decode_encode (.receive 40), decode_encode (.setOut true),
    decode_encode (.setIn true), decode_encode (.write false), decode_encode .read, decode_encode .abort,
    decode_of_reserved (by decide), decode_of_reserved (by decide), ?_⟩
  decide

end Sys2Proof
end

section
/-!
PROOFS of the family other, the invariant `Inv` of the block's registers: it holds after reset (70 R110), and the bus
operation, the sequencer and the synchroniser of a cycle keep it (10 R30).
-/

namespace Sys2Proof.Machine

/-! ### Reset (70 R110) -/

/-- All registers are 0, apart from the line's, which no clause speaks of while the block is idle. -/
theorem inv_toReset {s : State} (hlegal : s.cfg.legal = true) : Inv (toReset s) where
  legal := hlegal
  width_le := Nat.zero_le _
  bitidx_le := Nat.zero_le _
  bitidx_lt hbusy := absurd rfl hbusy
  tx_phase := nofun
  tx_frame := nofun
  rx_line := by simp
  delay_lt := nofun
  wdog_lt htimeout := Nat.pos_of_ne_zero htimeout
  frame_bits := Nat.two_pow_pos _
  rxsh_bits := Nat.two_pow_pos _
  cause_iff := by simp
  cause_le := Nat.zero_le 6

theorem inv_resetWith {p : Params} (hlegal : p.legal = true) : Inv (State.resetWith p) :=
  inv_toReset (s := State.resetWith p) hlegal

/-- Settles O49: `inv_resetWith`, the reference parameters being legal. -/
theorem resetSatisfiesTheInvariant : Obligations.ResetSatisfiesTheInvariant :=
  ⟨fun _ => inv_resetWith, inv_resetWith (by decide)⟩

/-! ### What a bus operation does to the registers of the invariant (20 R35, 44 R92) -/

section BusOperation

variable {s : State} (h : Inv s)
include h

theorem inv_raiseCmdErr {k : BitVec 3} (hk : k ≠ 0) (hle : k.toNat ≤ 6) : Inv (raiseCmdErr k s) :=
  { h with cause_iff := ⟨nofun, fun hzero => absurd hzero hk⟩, cause_le := hle }

/-- Bit 7 clears CMD_ERR and ERR_CAUSE together (10 R25). -/
theorem inv_clearFlags (v : Word) : Inv (clearFlags v s) := by
  refine { h with cause_iff := ?_, cause_le := ?_ } <;> rw [clearFlags_ecause]
  · rw [clearFlags_cerr]
    cases v.getLsbD 7
    · simpa using h.cause_iff
    · simp
  · split_ifs
    · exact Nat.zero_le 6
    · exact h.cause_le

theorem inv_setTxdata (v : Word) : Inv (setTxdata v s) := { h with }

theorem inv_setRxdata (v : Word) : Inv (setRxdata v s) := { h with }

/-- The line state is bound only while the block is busy. -/
theorem inv_setLine (hs : s.fsm = .idle) (l : LineState) : Inv (setLine l s) :=
  { h with
    tx_phase := fun htx => by simp [hs] at htx
    rx_line := fun hrx => by simp [hs] at hrx }

/-- An idle block is free of the clauses about a running transfer. -/
theorem inv_release_at {n : BitVec 6} (hn : n.toNat ≤ frameLength s.width) : Inv (release { s with bitidx := n }) :=
  { h with
    bitidx_le := hn
    bitidx_lt := fun hbusy => absurd rfl hbusy
    tx_phase := nofun
    tx_frame := nofun
    rx_line := by simp
    delay_lt := nofun }

theorem inv_release : Inv (release s) := inv_release_at h h.bitidx_le

theorem inv_abortRunning : Inv (abortRunning s) := { inv_release h with }

/-- A frame of width W has W + 2 bits (41 R66). -/
theorem frameEncode_bits {w : BitVec 6} (hw : w.toNat ≤ s.cfg.wmax) :
    (frameEncode (sendValue s) w.toNat).toNat < 2 ^ imageWidth s.cfg := by
  obtain ⟨-, ⟨-, hwmax⟩, -⟩ := (legal_iff s.cfg).1 h.legal
  have hpayload := Nat.mod_lt (sendValue s).toNat (Nat.two_pow_pos w.toNat)
  calc (frameEncode (sendValue s) w.toNat).toNat
      = 2 ^ (w.toNat + 1) + 2 * ((sendValue s).toNat % 2 ^ w.toNat) := frameEncode_toNat _ (hw.trans hwmax)
    _ < 2 ^ (w.toNat + 2) := by rw [Nat.pow_succ, Nat.pow_succ]; omega
    _ ≤ 2 ^ imageWidth s.cfg := Nat.pow_le_pow_right Nat.two_pos (Nat.add_le_add_right hw 2)

theorem inv_txAccept {w : BitVec 6} (hw : w.toNat ≤ s.cfg.wmax) : Inv (txAccept w s) := by
  obtain ⟨-, ⟨-, hwmax⟩, -⟩ := (legal_iff s.cfg).1 h.legal
  obtain ⟨-, -, hframing, -⟩ := frameCodecLaws
  exact { h with
    width_le := hw
    bitidx_le := Nat.zero_le _
    bitidx_lt := fun _ => Nat.succ_pos _
    tx_phase := fun _ => .inl ⟨rfl, rfl, Nat.lt_of_succ_le (countFor_tickCycles h.legal).le⟩
    tx_frame := fun _ => hframing _ _ (hw.trans hwmax)
    rx_line := by simp
    delay_lt := nofun
    frame_bits := frameEncode_bits h hw }

theorem inv_rxAccept {w : BitVec 6} (hw : w.toNat ≤ s.cfg.wmax) : Inv (rxAccept w s) :=
  { h with
    width_le := hw
    bitidx_le := Nat.zero_le _
    bitidx_lt := fun _ => Nat.succ_pos _
    tx_phase := nofun
    tx_frame := nofun
    rx_line := fun _ => rfl
    delay_lt := nofun
    wdog_lt := fun htimeout => Nat.pos_of_ne_zero htimeout
    rxsh_bits := Nat.two_pow_pos _ }

theorem inv_exec {c : Instr} {t : State} (hexec : exec c s = .next t) : Inv t := by
  by_cases hs : s.fsm = .idle
  · rcases exec_idle_next hs hexec with ⟨rfl, -⟩ | ⟨-, rfl⟩ | ⟨w, -, hw, rfl⟩ | ⟨w, -, hw, rfl⟩ | ⟨l, -, rfl⟩ |
      ⟨p, -, rfl⟩ | ⟨l, -, -, rfl⟩ | ⟨l, -, -, rfl⟩ | ⟨-, -, rfl⟩ | ⟨-, -, rfl⟩
    exacts [h, inv_raiseCmdErr h (by decide) (by decide), inv_txAccept h hw, inv_rxAccept h hw, inv_setLine h hs _,
      inv_setLine h hs _, inv_setLine h hs _, inv_raiseCmdErr h (by decide) (by decide), inv_setRxdata h _,
      inv_raiseCmdErr h (by decide) (by decide)]
  · rcases exec_busy_next hs hexec with ⟨-, rfl⟩ | ⟨-, rfl⟩ | ⟨-, -, rfl⟩
    exacts [h, inv_abortRunning h, inv_raiseCmdErr h (by decide) (by decide)]

theorem inv_busUpdate {b : State} {i : PortIn} (hbus : busUpdate s i = .next b) : Inv b := by
  rcases busUpdate_next hbus with ⟨rfl, -⟩ | ⟨-, hcmd⟩ | ⟨-, rfl⟩ | ⟨-, rfl⟩
  · exact h
  · rcases cmdWrite_next hcmd with ⟨e, -, rfl⟩ | ⟨c, -, hexec⟩
    · cases e <;> exact inv_raiseCmdErr h (by decide) (by decide)
    · exact inv_exec h hexec
  · exact inv_clearFlags h _
  · exact inv_setTxdata h _

end BusOperation

/-! ### What the sequencer does to the registers of the invariant (42 R76, 43 R82 to R86) -/

/-- bitidx stays below 34, so it does not wrap in its 6 bits (10 R22). -/
theorem bitidx_succ {s : State} (hlegal : s.cfg.legal = true) (hwidth : s.width.toNat ≤ s.cfg.wmax)
    (hbit : s.bitidx.toNat < frameLength s.width) : (s.bitidx + 1).toNat = s.bitidx.toNat + 1 := by
  obtain ⟨-, ⟨-, hmax⟩, -⟩ := (legal_iff s.cfg).1 hlegal
  rw [frameLength] at hbit
  bv_omega

section Sequencer

variable {s : State} (h : Inv s)
include h

theorem Inv.bitidx_succ (hbusy : s.fsm ≠ .idle) : (s.bitidx + 1).toNat = s.bitidx.toNat + 1 :=
  Machine.bitidx_succ h.legal h.width_le (h.bitidx_lt hbusy)

/-- wdog does not wrap and stays below a timeout that is not due (41 R73). -/
theorem Inv.wdog_succ_lt (hdue : ¬ timeoutDue s = true) (htimeout : s.cfg.timeoutCycles ≠ 0) :
    (s.wdog + 1).toNat < s.cfg.timeoutCycles := by
  obtain ⟨-, -, -, hmax⟩ := (legal_iff s.cfg).1 h.legal
  have hlt := h.wdog_lt htimeout
  have hnot : s.wdog.toNat ≠ s.cfg.timeoutCycles - 1 := fun heq => hdue ((timeoutDue_iff s).2 ⟨htimeout, heq⟩)
  bv_omega

/-- Counting down stays within the phase's length. -/
theorem inv_txStep_counting (hs : s.fsm = .tx) (hcount : s.tcnt ≠ 0) : Inv { s with tcnt := s.tcnt - 1 } := by
  have hless : (s.tcnt - 1).toNat ≤ s.tcnt.toNat := by bv_omega
  refine { h with tx_phase := fun _ => ?_, delay_lt := fun hdelay => absurd (hs.symm.trans hdelay) nofun }
  rcases h.tx_phase hs with ⟨h1, hline, hlt⟩ | ⟨h2, hline, hlt⟩ | ⟨h3, hp2, hline, hlt⟩
  · exact .inl ⟨h1, hline, hless.trans_lt hlt⟩
  · exact .inr (.inl ⟨h2, hline, hless.trans_lt hlt⟩)
  · exact .inr (.inr ⟨h3, hp2, hline, hless.trans_lt hlt⟩)

/-- Each phase begins with the count one below its length, and a bit that is not the last leaves one to come. -/
theorem inv_txStep (hs : s.fsm = .tx) : Inv (txStep s s) := by
  have hbusy : s.fsm ≠ .idle := by simp [hs]
  have hlt := h.bitidx_lt hbusy
  have hsucc := h.bitidx_succ hbusy
  have htick := countFor_tickCycles h.legal
  have hvalue := countFor_valuePhaseCycles h.legal
  have hdelay : s.fsm ≠ .rxDelay := by simp [hs]
  unfold txStep
  split_ifs with hcount hphase1 hphase2 hlast
  · exact inv_txStep_counting h hs hcount
  · exact { h with
      tx_phase := fun _ => .inr (.inl ⟨rfl, rfl, Nat.lt_of_succ_le hvalue.le⟩)
      rx_line := by simp [hs]
      delay_lt := fun hfsm => absurd hfsm hdelay }
  · exact { h with
      tx_phase := fun _ => .inr (.inr ⟨rfl, hphase2.2, rfl, Nat.lt_of_succ_le htick.le⟩)
      rx_line := by simp [hs]
      delay_lt := fun hfsm => absurd hfsm hdelay }
  · exact { inv_release_at h (hsucc.trans_le hlt) with }
  · have hmore : (s.bitidx + 1).toNat < frameLength s.width := by
      rw [lastBit_iff] at hlast
      unfold frameLength at hlt ⊢
      omega
    exact { h with
      bitidx_le := hmore.le
      bitidx_lt := fun _ => hmore
      tx_phase := fun _ => .inl ⟨rfl, rfl, Nat.lt_of_succ_le htick.le⟩
      rx_line := by simp [hs]
      delay_lt := fun hfsm => absurd hfsm hdelay }

theorem inv_rxTimeout : Inv (rxTimeout s) := { inv_release h with }

/-- A cycle spent in vain counts, or is the last of the timeout. -/
theorem inv_waitsInVain (hwait : WaitsInVain s) : Inv (seqUpdate s s) := by
  rw [seqUpdate_waitsInVain s hwait]
  split_ifs with hdue
  · exact inv_rxTimeout h
  · exact { h with wdog_lt := h.wdog_succ_lt hdue }

theorem inv_rxWaitHigh_edge (hs : s.fsm = .rxWaitHigh) (hline : lineS s = false) : Inv (seqUpdate s s) := by
  rw [seqUpdate_rxWaitHigh hs, rxWaitHighStep_edge s hline]
  exact { h with
    bitidx_lt := fun _ => h.bitidx_lt (by simp [hs])
    tx_phase := nofun
    tx_frame := nofun
    rx_line := fun _ => h.rx_line (.inl hs)
    delay_lt := fun _ => Nat.lt_of_succ_le (countFor_sampleDelay h.legal).le }

/-- The store is masked to the register's WMAX + 2 bits (10 R28). -/
theorem storeSample_toNat_lt : (storeSample s).toNat < 2 ^ imageWidth s.cfg := by
  have hwidth := imageWidth_le h.legal
  have hpos := Nat.two_pow_pos (imageWidth s.cfg)
  have hmask : 2 ^ imageWidth s.cfg - 1 < 2 ^ 34 :=
    (Nat.sub_lt hpos Nat.one_pos).trans_le (Nat.pow_le_pow_right Nat.two_pos hwidth)
  rw [storeSample, keepLow, BitVec.toNat_and, toNat_ofNat_of_lt hmask]
  exact Nat.and_le_right.trans_lt (Nat.sub_lt hpos Nat.one_pos)

theorem inv_rxDelayStep (hs : s.fsm = .rxDelay) : Inv (rxDelayStep s s) := by
  unfold rxDelayStep
  split_ifs with hcount
  · have hless : (s.tcnt - 1).toNat ≤ s.tcnt.toNat := by bv_omega
    exact { h with
      tx_phase := fun htx => absurd (hs.symm.trans htx) nofun
      delay_lt := fun hfsm => hless.trans_lt (h.delay_lt hfsm) }
  · exact { h with
      bitidx_lt := fun _ => h.bitidx_lt (by simp [hs])
      tx_phase := nofun
      tx_frame := nofun
      rx_line := fun _ => h.rx_line (.inr (.inl hs))
      delay_lt := nofun
      wdog_lt := fun htimeout => Nat.pos_of_ne_zero htimeout
      rxsh_bits := storeSample_toNat_lt h }

/-- The end of a bit: RX_WAIT_HIGH with a bit to come, or IDLE after the last. -/
theorem inv_rxWaitLow_released (hs : s.fsm = .rxWaitLow) (hline : lineS s = true) : Inv (seqUpdate s s) := by
  have hbusy : s.fsm ≠ .idle := by simp [hs]
  have hlt := h.bitidx_lt hbusy
  have hsucc := h.bitidx_succ hbusy
  rw [seqUpdate_rxWaitLow hs, rxWaitLowStep_released s hline]
  split_ifs with hlast
  · exact { inv_release_at h (hsucc.trans_le hlt) with
      wdog_lt := fun htimeout => Nat.pos_of_ne_zero htimeout }
  · have hmore : (s.bitidx + 1).toNat < frameLength s.width := by
      rw [lastBit_iff] at hlast
      unfold frameLength at hlt ⊢
      omega
    exact { h with
      bitidx_le := hmore.le
      bitidx_lt := fun _ => hmore
      tx_phase := nofun
      tx_frame := nofun
      rx_line := fun _ => h.rx_line (.inr (.inr hs))
      delay_lt := nofun
      wdog_lt := fun htimeout => Nat.pos_of_ne_zero htimeout }

theorem inv_seqUpdate : Inv (seqUpdate s s) := by
  cases hs : s.fsm with
  | idle => rwa [seqUpdate_idle hs]
  | tx =>
    rw [seqUpdate_tx hs]
    exact inv_txStep h hs
  | rxWaitHigh =>
    cases hline : lineS s with
    | false => exact inv_rxWaitHigh_edge h hs hline
    | true => exact inv_waitsInVain h (.inl ⟨hs, hline⟩)
  | rxDelay =>
    rw [seqUpdate_rxDelay hs]
    exact inv_rxDelayStep h hs
  | rxWaitLow =>
    cases hline : lineS s with
    | false => exact inv_waitsInVain h (.inr ⟨hs, hline⟩)
    | true => exact inv_rxWaitLow_released h hs hline

end Sequencer

/-! ### A cycle and a step (10 R30) -/

/-- The host reaches none of the registers the sequencer reads (44 R93), so it goes on from what the host left. -/
theorem seqUpdate_of_busUpdate {s b : State} {i : PortIn} (hbusy : s.fsm ≠ .idle) (habort : writesAbort i = false)
    (hbus : busUpdate s i = .next b) : seqUpdate s b = seqUpdate b b := by
  obtain ⟨_, _, _, _, _, _, _, rfl⟩ := busUpdate_busy hbusy habort hbus
  rfl

theorem inv_shiftSync {s : State} (h : Inv s) (first line : Bool) : Inv (shiftSync first line s) := { h with }

theorem inv_passCycle {s : State} (h : Inv s) : Inv (passCycle s) := { h with }

theorem inv_finishCycle {s b : State} {i : PortIn} (hb : Inv b) (hbus : busUpdate s i = .next b) :
    Inv (finishCycle s i b) := by
  by_cases hs : s.fsm = .idle
  · rw [finishCycle_idle hs]
    exact inv_shiftSync hb _ _
  cases hwins : abortWins s i with
  | true =>
    rw [finishCycle, if_pos hwins]
    exact inv_shiftSync hb _ _
  | false =>
    have habort : writesAbort i = false := by
      simpa only [abortWins, (busy_eq_true s).2 hs, Bool.true_and] using hwins
    rw [finishCycle_of_no_abort hwins, seqUpdate_of_busUpdate hs habort hbus]
    exact inv_shiftSync (inv_seqUpdate hb) _ _

theorem inv_clock {s t : State} {i : PortIn} (h : Inv s) (hclock : clock s i = .next t) : Inv t := by
  obtain ⟨hlegal, ⟨-, rfl⟩ | ⟨-, b, hbus, rfl⟩⟩ := clock_eq_next.1 hclock
  · exact inv_toReset hlegal
  · exact inv_finishCycle (inv_busUpdate h hbus) hbus

/-- Settles O50: a cycle is a reset, or the bus operation, the sequencer and the synchroniser one after the other, and
each keeps `Inv`. -/
theorem everyStepKeepsTheInvariant : Obligations.EveryStepKeepsTheInvariant := by
  intro s t h hstep
  obtain ⟨u, hclock, rfl⟩ := step_eq_next.1 hstep
  exact inv_passCycle (inv_clock h hclock)

end Sys2Proof.Machine
end

section
/-!
PROOFS of the family other, one cycle: the arms of the commands (40 R62 to R65, 42 R75, 43 R81, 44 R92, R96, R97), the
cycle of a command (10 R30, 20 R35) and of an ABORT (60 R100), the life of the data registers (20 R43), the hidden
registers (10 R28) and the two blocks on one wire (60 R106).
-/

namespace Sys2Proof.Machine

/-! ### The arms of the commands -/

/-- Settles O6: NOP answers its own state. -/
theorem nopLeavesEveryRegister : Obligations.NopLeavesEveryRegister := fun _ => rfl

/-- Settles O7: `exec_idle_send`, with the assignments of `txAccept` written out. -/
theorem sendIsAccepted : Obligations.SendIsAccepted := fun _ _ hidle hw => exec_idle_send hidle hw

/-- Settles O8: `exec_idle_receive`, with the assignments of `rxAccept` written out. -/
theorem receiveIsAccepted : Obligations.ReceiveIsAccepted := fun _ _ hidle hw => exec_idle_receive hidle hw

/-- Settles O9: `exec_idle_setOut`, with `drv` written out. -/
theorem setOutDrivesTheLevel : Obligations.SetOutDrivesTheLevel := fun l _ hidle => exec_idle_setOut hidle l

/-- Settles O10: `exec_idle_setIn`, with `pulled` written out. -/
theorem setInReleasesTheLine : Obligations.SetInReleasesTheLine := fun p _ hidle => exec_idle_setIn hidle p

/-- A line state is of output mode or of input mode, and of one of them only (40 R56). -/
theorem not_driven_of_input {l : LineState} (h : l = .idleHigh ∨ l = .floatingInput) :
    ¬ (l = .drivenLow ∨ l = .drivenHigh) := by
  rcases h with rfl | rfl <;> decide

/-- Settles O11: `exec_idle_write` in output mode and in input mode. -/
theorem writeDrivesOnlyInOutputMode : Obligations.WriteDrivesOnlyInOutputMode := fun l _ hidle =>
  ⟨fun hdriven => (exec_idle_write hidle l).trans (if_pos hdriven),
    fun hinput => (exec_idle_write hidle l).trans (if_neg (not_driven_of_input hinput))⟩

/-- Settles O12: `exec_idle_read` in input mode, where `line_s` zero-extended is 1 or 0, and in output mode. -/
theorem readSamplesOnlyInInputMode : Obligations.ReadSamplesOnlyInInputMode := by
  refine fun s hidle => ⟨fun hinput => ?_, fun hdriven => ?_⟩
  · rw [exec_idle_read hidle, if_pos hinput, lineWord_eq]
    rfl
  · exact (exec_idle_read hidle).trans (if_neg fun hinput => not_driven_of_input hinput hdriven)

/-- Settles O13: the two branches of `exec_abort`. -/
theorem abortReleasesARunningCommand : Obligations.AbortReleasesARunningCommand := fun s =>
  ⟨fun hbusy => (exec_abort s).trans (if_neg hbusy), fun hidle => (exec_abort s).trans (if_pos hidle)⟩

/-- Settles O15: `exec_idle_too_wide` for both transfers. -/
theorem tooWideTransfersAreRejected : Obligations.TooWideTransfersAreRejected := fun _ _ hidle hwide =>
  ⟨exec_idle_too_wide hidle (decide_eq_false (Nat.not_le.2 hwide)),
    exec_idle_too_wide hidle (decide_eq_false (Nat.not_le.2 hwide))⟩

/-! ### The cycle that writes a command (10 R30) -/

theorem abortWins_iff_of_writesCommand {s : State} {i : PortIn} {c : Instr} (h : writesCommand i c) :
    abortWins s i = true ↔ c = .abort ∧ s.fsm ≠ .idle := by
  rw [abortWins_eq_true, and_comm]
  refine and_congr_left fun _ => ⟨fun habort => ?_, ?_⟩
  · exact Decoded.cmd.inj (h.2.symm.trans habort.2)
  · rintro rfl
    exact h

theorem clock_of_writesCommand {s b : State} {i : PortIn} {c : Instr} (hlegal : s.cfg.legal = true)
    (hrst : i.rst = false) (hwrites : writesCommand i c) (hexec : exec c s = .next b) :
    clock s i =
      .next (shiftSync s.sync1 i.lineI (if c = .abort ∧ s.fsm ≠ .idle then b else seqUpdate s b)) := by
  refine clock_eq_next.2 ⟨hlegal, .inr ⟨hrst, b, (busUpdate_of_writesCommand hwrites).trans hexec, ?_⟩⟩
  simp only [finishCycle, abortWins_iff_of_writesCommand hwrites]

/-- Settles O40: `clock_of_writesCommand` for an ABORT of a running command, which answers `abortRunning`. -/
theorem abortDiscardsTheSequencer : Obligations.AbortDiscardsTheSequencer := by
  intro s i hlegal hbusy hrst hwrites
  have hexec : exec .abort s = .next (abortRunning s) := (exec_abort s).trans (if_neg hbusy)
  rw [clock_of_writesCommand hlegal hrst hwrites hexec, if_pos ⟨rfl, hbusy⟩]
  rfl

/-- Settles O51: the step is `clock_of_writesCommand` with the next listed ports, which are then used up. -/
theorem stepRunsTheDecodedCommand : Obligations.StepRunsTheDecodedCommand := by
  intro s b i more c hlegal hin hrst hop hreg hdecode hexec
  have hwrites : writesCommand i c := ⟨⟨(busKind_eq_write _).2 hop, hreg⟩, hdecode⟩
  rw [step, nextInput_cons hin, clock_of_writesCommand hlegal hrst hwrites hexec, mapNext_next]
  rfl

/-! ### The data registers (20 R43) -/

/-- A register that neither a rejection nor a write to STATUS or TXDATA touches is changed by commands alone. -/
theorem busUpdate_changed_by_command {α : Type} {register : State → α} {s b : State} {i : PortIn}
    (hraise : ∀ k, register (raiseCmdErr k s) = register s) (hclear : ∀ v, register (clearFlags v s) = register s)
    (hset : ∀ v, register (setTxdata v s) = register s) (h : busUpdate s i = .next b)
    (hchanged : register b ≠ register s) : ∃ c, writesCommand i c ∧ exec c s = .next b := by
  rcases busUpdate_next h with ⟨rfl, -⟩ | ⟨hreg, hcmd⟩ | ⟨-, rfl⟩ | ⟨-, rfl⟩
  · exact absurd rfl hchanged
  · rcases cmdWrite_next hcmd with ⟨e, -, rfl⟩ | ⟨c, hdecode, hexec⟩
    · exact absurd (hraise _) hchanged
    · exact ⟨c, ⟨hreg, hdecode⟩, hexec⟩
  · exact absurd (hclear _) hchanged
  · exact absurd (hset _) hchanged

theorem exec_txdata {c : Instr} {s t : State} (h : exec c s = .next t) : t.txdata = s.txdata := by
  by_cases hs : s.fsm = .idle
  · rcases exec_idle_next hs h with ⟨rfl, -⟩ | ⟨-, rfl⟩ | ⟨_, -, -, rfl⟩ | ⟨_, -, -, rfl⟩ | ⟨_, -, rfl⟩ | ⟨_, -, rfl⟩ |
      ⟨_, -, -, rfl⟩ | ⟨_, -, -, rfl⟩ | ⟨-, -, rfl⟩ | ⟨-, -, rfl⟩ <;> rfl
  · rcases exec_busy_next hs h with ⟨-, rfl⟩ | ⟨-, rfl⟩ | ⟨-, -, rfl⟩ <;> rfl

/-- READ is the one command that writes RXDATA (40 R65). -/
theorem exec_rxdata_changed {c : Instr} {s t : State} (h : exec c s = .next t) (hchanged : t.rxdata ≠ s.rxdata) :
    s.fsm = .idle ∧ c = .read ∧ inputMode s.lineState = true ∧ t.rxdata = lineWord s := by
  by_cases hs : s.fsm = .idle
  · rcases exec_idle_next hs h with ⟨rfl, -⟩ | ⟨-, rfl⟩ | ⟨_, -, -, rfl⟩ | ⟨_, -, -, rfl⟩ | ⟨_, -, rfl⟩ | ⟨_, -, rfl⟩ |
      ⟨_, -, -, rfl⟩ | ⟨_, -, -, rfl⟩ | ⟨hc, hmode, rfl⟩ | ⟨-, -, rfl⟩
    exacts [absurd rfl hchanged, absurd rfl hchanged, absurd rfl hchanged, absurd rfl hchanged, absurd rfl hchanged,
      absurd rfl hchanged, absurd rfl hchanged, absurd rfl hchanged, ⟨hs, hc, hmode, rfl⟩, absurd rfl hchanged]
  · rcases exec_busy_next hs h with ⟨-, rfl⟩ | ⟨-, rfl⟩ | ⟨-, -, rfl⟩ <;> exact absurd rfl hchanged

/-- SEND is the one command that writes frame (42 R75). -/
theorem exec_frame_changed {c : Instr} {s t : State} (h : exec c s = .next t) (hchanged : t.frame ≠ s.frame) :
    s.fsm = .idle ∧ ∃ w : BitVec 6, w.toNat ≤ s.cfg.wmax ∧ c = .send w ∧ t.frame = frameEncode s.txdata w.toNat := by
  by_cases hs : s.fsm = .idle
  · rcases exec_idle_next hs h with ⟨rfl, -⟩ | ⟨-, rfl⟩ | ⟨w, hc, hw, rfl⟩ | ⟨_, -, -, rfl⟩ | ⟨_, -, rfl⟩ |
      ⟨_, -, rfl⟩ | ⟨_, -, -, rfl⟩ | ⟨_, -, -, rfl⟩ | ⟨-, -, rfl⟩ | ⟨-, -, rfl⟩
    exacts [absurd rfl hchanged, absurd rfl hchanged, ⟨hs, w, hw, hc, rfl⟩, absurd rfl hchanged, absurd rfl hchanged,
      absurd rfl hchanged, absurd rfl hchanged, absurd rfl hchanged, absurd rfl hchanged, absurd rfl hchanged]
  · rcases exec_busy_next hs h with ⟨-, rfl⟩ | ⟨-, rfl⟩ | ⟨-, -, rfl⟩ <;> exact absurd rfl hchanged

/-- A bus operation changes TXDATA only by a write to it. -/
theorem busUpdate_txdata_changed {s b : State} {i : PortIn} (h : busUpdate s i = .next b)
    (hchanged : b.txdata ≠ s.txdata) : writesRegister i 2 ∧ b.txdata = i.busWdata := by
  rcases busUpdate_next h with ⟨rfl, -⟩ | ⟨-, hcmd⟩ | ⟨-, rfl⟩ | ⟨hreg, rfl⟩
  · exact absurd rfl hchanged
  · rcases cmdWrite_next hcmd with ⟨e, -, rfl⟩ | ⟨c, -, hexec⟩
    · exact absurd rfl hchanged
    · exact absurd (exec_txdata hexec) hchanged
  · exact absurd rfl hchanged
  · exact ⟨hreg, rfl⟩

/-- The sequencer writes RXDATA where it completes a RECEIVE, and nowhere else (43 R85). -/
theorem seqUpdate_rxdata_changed {s b : State} (hchanged : (seqUpdate s b).rxdata ≠ b.rxdata) :
    ReceiveCompletes s ∧ (seqUpdate s b).rxdata = frameDecode s.rxsh s.width.toNat := by
  cases hfsm : s.fsm with
  | idle => exact absurd (congrArg State.rxdata (seqUpdate_idle hfsm b)) hchanged
  | tx =>
    rw [seqUpdate_tx hfsm, txStep] at hchanged
    split_ifs at hchanged <;> exact absurd rfl hchanged
  | rxWaitHigh =>
    rw [seqUpdate_rxWaitHigh hfsm, rxWaitHighStep] at hchanged
    split_ifs at hchanged <;> exact absurd rfl hchanged
  | rxDelay =>
    rw [seqUpdate_rxDelay hfsm, rxDelayStep] at hchanged
    split_ifs at hchanged <;> exact absurd rfl hchanged
  | rxWaitLow =>
    rw [seqUpdate_rxWaitLow hfsm, rxWaitLowStep] at hchanged ⊢
    split_ifs at hchanged ⊢ with hline hlast
    · exact ⟨⟨hfsm, hline, hlast⟩, rfl⟩
    all_goals exact absurd rfl hchanged

theorem finishCycle_txdata_frame (s b : State) (i : PortIn) :
    (finishCycle s i b).txdata = b.txdata ∧ (finishCycle s i b).frame = b.frame := by
  obtain ⟨-, -, -, -, hframe, htxdata, -⟩ := seqUpdate_frame s b
  unfold finishCycle
  split
  · exact ⟨rfl, rfl⟩
  · exact ⟨htxdata, hframe⟩

/-- Settles O25: TXDATA and frame are as the bus operation left them; RXDATA is too in the cycle of a READ, whose block
is idle, and is otherwise changed by the sequencer. -/
theorem dataRegistersChangeOnlyByTheirEvents : Obligations.DataRegistersChangeOnlyByTheirEvents := by
  intro s t i hclock
  obtain ⟨-, ⟨hrst, rfl⟩ | ⟨-, b, hbus, rfl⟩⟩ := clock_eq_next.1 hclock
  · exact ⟨fun _ => .inl hrst, fun _ => .inl hrst, fun _ => .inl hrst⟩
  obtain ⟨htxdata, hframe⟩ := finishCycle_txdata_frame s b i
  rw [htxdata, hframe]
  refine ⟨fun hchanged => .inr ?_, fun hchanged => .inr (busUpdate_txdata_changed hbus hchanged),
    fun hchanged => .inr ?_⟩
  · by_cases hb : b.rxdata = s.rxdata
    · rw [← hb] at hchanged
      cases hwins : abortWins s i with
      | true =>
        rw [finishCycle, if_pos hwins] at hchanged
        exact absurd rfl hchanged
      | false =>
        rw [finishCycle_of_no_abort hwins] at hchanged ⊢
        obtain ⟨⟨hfsm, hline, hlast⟩, hvalue⟩ := seqUpdate_rxdata_changed hchanged
        exact .inl ⟨rfl, hfsm, hline, (lastBit_iff s).1 hlast, hvalue⟩
    · obtain ⟨c, hwrites, hexec⟩ :=
        busUpdate_changed_by_command (fun _ => rfl) (fun _ => rfl) (fun _ => rfl) hbus hb
      obtain ⟨hidle, rfl, hmode, hvalue⟩ := exec_rxdata_changed hexec hb
      rw [finishCycle_idle hidle]
      exact .inr ⟨hidle, hwrites, hmode, hvalue.trans (lineWord_eq s)⟩
  · obtain ⟨c, hwrites, hexec⟩ :=
      busUpdate_changed_by_command (fun _ => rfl) (fun _ => rfl) (fun _ => rfl) hbus hchanged
    obtain ⟨hidle, w, hw, rfl, hvalue⟩ := exec_frame_changed hexec hchanged
    exact ⟨w, hidle, hw, hwrites, hvalue⟩

/-! ### The hidden registers (10 R28) -/

/-- Settles O26: the pad is a function of line_state, and no readable register shows a hidden one. -/
theorem hiddenRegistersAreUnreadable : Obligations.HiddenRegistersAreUnreadable := by
  intro s i y1 w ph tc wd f r
  have hread (a : BusAddr) :
      readValue { s with sync1 := y1, width := w, phase := ph, tcnt := tc, wdog := wd, frame := f, rxsh := r } a
        = readValue s a := rfl
  simp only [outputs, hread]

/-! ### Two blocks on one wire (60 R106) -/

/-- The level a block reads is the same beside two other blocks with the same pad. -/
theorem pairWire_congr {p q : Pair} (ha : pad p.a.lineState = pad q.a.lineState)
    (hb : pad p.b.lineState = pad q.b.lineState) : pairWire p = pairWire q := by
  rw [pairWire, pairWire, ha, hb]

/-- Settles O54: a block's part of `pairClock` is its own `clock` on the wire's level, which the pads determine. -/
theorem endpointsShareOnlyTheWire : Obligations.EndpointsShareOnlyTheWire := by
  intro p q r other ia ib j hq
  obtain ⟨hqa, hqb, -, -⟩ := pairClock_next hq
  refine ⟨fun hpad hr => ?_, fun hpad hr => ?_⟩
  · obtain ⟨hra, -, -, -⟩ := pairClock_next hr
    rw [pairWire_congr (p := { p with b := other }) (q := p) rfl hpad] at hra
    exact next_inj.1 (hqa.symm.trans hra)
  · obtain ⟨-, hrb, -, -⟩ := pairClock_next hr
    rw [pairWire_congr (p := { p with a := other }) (q := p) hpad rfl] at hrb
    exact next_inj.1 (hqb.symm.trans hrb)

end Sys2Proof.Machine
end

section
/-!
PROOFS of the family other, whole RECEIVEs: the least duration on any input (43 R91) and the reception of an aligned
frame (R88).
-/

namespace Sys2Proof.Machine

/-! ### A RECEIVE's cycles over listed inputs (43 R81) -/

/-- The cycle that writes an accepted RECEIVE makes its assignments and shifts the synchroniser. -/
theorem step_receive {s : State} {w : BitVec 6} {i : PortIn} {more : List PortIn} (hlegal : s.cfg.legal = true)
    (hidle : s.fsm = .idle) (hwidth : w.toNat ≤ s.cfg.wmax) (hrst : i.rst = false)
    (hreceive : writesCommand i (.receive w)) (hin : s.inputs = i :: more) :
    step s = .next (passCycle (shiftSync s.sync1 i.lineI (rxAccept w s))) := by
  have hexec : exec (.receive w) s = .next (rxAccept w s) := exec_idle_receive hidle hwidth
  rw [step, nextInput_cons hin, clock_of_writesCommand hlegal hrst hreceive hexec, if_neg nofun, seqUpdate_idle hidle,
    mapNext_next]

/-- A calm cycle of a busy block: what the host left, then the sequencer from there, then the synchroniser. -/
theorem step_calm_from_host {s : State} {j : PortIn} {more : List PortIn} (hlegal : s.cfg.legal = true)
    (hbusy : s.fsm ≠ .idle) (hin : s.inputs = j :: more) (hcalm : calm j = true) :
    ∃ b t, busUpdate s j = .next b ∧ step s = .next t ∧
      t = passCycle (shiftSync s.sync1 j.lineI (seqUpdate b b)) ∧ t.inputs = more := by
  obtain ⟨b, t, hbus, hstep, ht, hint⟩ := step_calm_busy hlegal hbusy hin hcalm
  rw [seqUpdate_of_busUpdate hbusy ((calm_iff j).1 hcalm).2 hbus] at ht
  exact ⟨b, t, hbus, hstep, ht, hint⟩

/-! ### The least duration (43 R91) -/

/-- What a bit takes at least: its detection, the sample delay, and the cycle that ends it. -/
def leastBit (p : Params) : Nat := sampleDelay p + 2

/-- s is in cycle k after the acceptance of a RECEIVE of width w, each bit having taken at least `leastBit`. -/
structure ReceivingAt (p : Params) (w : BitVec 6) (k : Nat) (s : State) : Prop where
  cfg_eq : s.cfg = p
  width_eq : s.width = w
  bit_lt : s.bitidx.toNat < frameLength w
  progress :
    (s.fsm = .rxWaitHigh ∧ leastBit p * s.bitidx.toNat ≤ k) ∨
    (s.fsm = .rxDelay ∧ leastBit p * s.bitidx.toNat + sampleDelay p ≤ k + s.tcnt.toNat) ∨
    (s.fsm = .rxWaitLow ∧ leastBit p * s.bitidx.toNat + sampleDelay p < k)

section LeastDuration

variable {p : Params} {w : BitVec 6} {k : Nat} {s : State}

theorem ReceivingAt.busy (h : ReceivingAt p w k s) : s.fsm ≠ .idle := by
  rcases h.progress with ⟨hfsm, -⟩ | ⟨hfsm, -⟩ | ⟨hfsm, -⟩ <;> simp [hfsm]

/-- The host, the synchroniser and the input list have no part in where a RECEIVE stands. -/
theorem ReceivingAt.busUpdate_keeps {b : State} {j : PortIn} (h : ReceivingAt p w k s) (hcalm : calm j = true)
    (hbus : busUpdate s j = .next b) : ReceivingAt p w k b := by
  obtain ⟨_, _, _, _, _, _, _, rfl⟩ := busUpdate_busy h.busy ((calm_iff j).1 hcalm).2 hbus
  exact { h with }

theorem ReceivingAt.endCycle (first line : Bool) (h : ReceivingAt p w k s) :
    ReceivingAt p w k (passCycle (shiftSync first line s)) := { h with }

/-- A wait only adds to a bit's duration, and so does a line that ends it late. -/
theorem ReceivingAt.seqUpdate_moves (hlegal : p.legal = true) (htimeout : p.timeoutCycles = 0)
    (hwidth : w.toNat ≤ p.wmax) (h : ReceivingAt p w k s) (hk : k + 1 < leastBit p * frameLength w) :
    ReceivingAt p w (k + 1) (seqUpdate s s) := by
  obtain ⟨rfl, rfl, hbit, hprogress⟩ := h
  have hdue : ¬ timeoutDue s = true := by simp [timeoutDue_of_no_timeout htimeout]
  rcases hprogress with ⟨hfsm, hsince⟩ | ⟨hfsm, hsince⟩ | ⟨hfsm, hsince⟩
  · cases hline : lineS s with
    | true =>
      rw [seqUpdate_waitsInVain s (.inl ⟨hfsm, hline⟩), if_neg hdue]
      exact ⟨rfl, rfl, hbit, .inl ⟨hfsm, hsince.trans k.le_succ⟩⟩
    | false =>
      have hload := countFor_sampleDelay hlegal
      rw [seqUpdate_rxWaitHigh hfsm, rxWaitHighStep_edge s hline]
      exact ⟨rfl, rfl, hbit, .inr (.inl ⟨rfl, by dsimp only; omega⟩)⟩
  · rw [seqUpdate_rxDelay hfsm]
    by_cases hcount : s.tcnt = 0
    · rw [rxDelayStep_sample s hcount]
      rw [hcount] at hsince
      exact ⟨rfl, rfl, hbit, .inr (.inr ⟨rfl, Nat.lt_succ_of_le hsince⟩)⟩
    · have hdown : (s.tcnt - 1).toNat + 1 = s.tcnt.toNat := by bv_omega
      rw [rxDelayStep_counting s hcount]
      exact ⟨rfl, rfl, hbit, .inr (.inl ⟨hfsm, by dsimp only; omega⟩)⟩
  · cases hline : lineS s with
    | false =>
      rw [seqUpdate_waitsInVain s (.inr ⟨hfsm, hline⟩), if_neg hdue]
      exact ⟨rfl, rfl, hbit, .inr (.inr ⟨hfsm, hsince.trans k.lt_succ_self⟩)⟩
    | true =>
      have hsucc := bitidx_succ hlegal hwidth hbit
      have hended : leastBit s.cfg * (s.bitidx.toNat + 1) ≤ k + 1 := by
        rw [Nat.mul_succ]
        unfold leastBit at hsince ⊢
        omega
      have hmore : s.bitidx.toNat + 1 < frameLength s.width := by
        by_contra hlast
        have hall : leastBit s.cfg * frameLength s.width ≤ leastBit s.cfg * (s.bitidx.toNat + 1) :=
          Nat.mul_le_mul_left _ (Nat.le_of_not_lt hlast)
        omega
      rw [seqUpdate_rxWaitLow hfsm, rxWaitLowStep_released s hline, if_neg (mt (lastBit_iff s).1 hmore.ne)]
      exact ⟨rfl, rfl, hsucc.trans_lt hmore, .inl ⟨rfl, (congrArg (_ * ·) hsucc).trans_le hended⟩⟩

theorem ReceivingAt.step_moves {j : PortIn} {more : List PortIn} (hlegal : p.legal = true)
    (htimeout : p.timeoutCycles = 0) (hwidth : w.toNat ≤ p.wmax) (h : ReceivingAt p w k s)
    (hk : k + 1 < leastBit p * frameLength w) (hin : s.inputs = j :: more) (hcalm : calm j = true) :
    ∃ t, step s = .next t ∧ t.inputs = more ∧ ReceivingAt p w (k + 1) t := by
  obtain ⟨b, t, hbus, hstep, rfl, hint⟩ := step_calm_from_host (h.cfg_eq ▸ hlegal) h.busy hin hcalm
  have hb := h.busUpdate_keeps hcalm hbus
  exact ⟨_, hstep, hint, (hb.seqUpdate_moves hlegal htimeout hwidth hk).endCycle _ _⟩

end LeastDuration

/-- Settles O45: `ReceivingAt` along the cycles after the acceptance, up to the last that no RECEIVE of this width can
end before. -/
theorem receiveLastsAtLeastItsDelays : Obligations.ReceiveLastsAtLeastItsDelays := by
  intro s w i more rest hlegal htimeout hidle hwidth hrst hreceive hin hcalm k hk hlt
  replace hlt : k < leastBit s.cfg * frameLength w := hlt.trans_eq (Nat.mul_comm _ _)
  have haccepted : ReceivingAt s.cfg w 0 (passCycle (shiftSync s.sync1 i.lineI (rxAccept w s))) :=
    ⟨rfl, rfl, Nat.succ_pos _, .inl ⟨rfl, (Nat.mul_zero _).le⟩⟩
  have hinu : (passCycle (shiftSync s.sync1 i.lineI (rxAccept w s))).inputs = more ++ rest := by simp [hin]
  obtain ⟨t, hrun, -, hat⟩ :=
    run_along (n := k) (fun hlow hat => hat.step_moves hlegal htimeout hwidth (by omega)) k haccepted hinu hcalm hk
      (Nat.zero_add k).le
  refine ⟨t, ?_, hat.busy⟩
  rw [run_succ, step_receive hlegal hidle hwidth hrst hreceive hin]
  exact hrun

end Sys2Proof.Machine
end

section
/-!
PROOFS of the family other, the reception of an aligned frame (43 R88): the wire's levels around each bit, where the
receiver stands in each cycle, and what it holds after the last.
-/

namespace Sys2Proof.Machine

/-! ### The wire around a bit of the frame (42 R77, 43 R88) -/

/-- The first Low cycle of bit b of a frame that begins at index d. -/
def bitStart (p : Params) (d b : Nat) : Nat := d + bitCycles p * b

/-- The cycle in which a receiver that detected bit b in its first Low cycle sees the line High after the sample: the
next one if the bit is 1, else the first of the bit's third tick (43 R84). -/
def bitReleased (p : Params) (f : Image) (d b : Nat) : Nat :=
  bitStart p d b + if f.getLsbD b then sampleDelay p + 1 else 2 * tickCycles p

theorem bitStart_succ (p : Params) (d b : Nat) : bitStart p d (b + 1) = bitStart p d b + 3 * tickCycles p := by
  rw [bitStart, bitStart, Nat.mul_succ, ← Nat.add_assoc]
  rfl

theorem bitStart_le {b b' : Nat} (p : Params) (d : Nat) (h : b ≤ b') : bitStart p d b ≤ bitStart p d b' :=
  Nat.add_le_add_left (Nat.mul_le_mul_left _ h) d

/-- The release comes after the sample and before the next bit. -/
theorem bitReleased_bounds {p : Params} (hlegal : p.legal = true) (f : Image) (d b : Nat) :
    bitStart p d b + sampleDelay p < bitReleased p f d b ∧ bitReleased p f d b ≤ bitStart p d b + 2 * tickCycles p := by
  have hmin := two_le_tickCycles hlegal
  have hsample := sampleDelay_lt_two_ticks hlegal
  unfold bitReleased
  split_ifs <;> omega

section FrameOnWire

variable {p : Params} {f : Image} {w : BitVec 6} {d b : Nat}

theorem wireWithFrame_before {k : Nat} (h : k < d) : wireWithFrame p f w d k = true := if_pos h

/-- The three ticks of bit b: Low, the bit's value, High. -/
theorem wireWithFrame_in_bit (hb : b < frameLength w) {r : Nat} (hr : r < 3 * tickCycles p) :
    wireWithFrame p f w d (bitStart p d b + r) =
      if r < tickCycles p then false else if r < 2 * tickCycles p then f.getLsbD b else true := by
  have hnot : ¬ bitStart p d b + r < d := by
    unfold bitStart
    omega
  have hindex : bitStart p d b + r - d = bitCycles p * b + r := by
    unfold bitStart
    omega
  have hvalue : tickCycles p + valuePhaseCycles { p with p2Ticks := 1 } = 2 * tickCycles p := by
    change tickCycles p + 1 * tickCycles p = _
    omega
  rw [wireWithFrame, if_neg hnot, hindex, ← hvalue]
  exact waveLevel_in_bit { p with p2Ticks := 1 } f hb hr

/-- Only after the sample of a 0 is the wire still Low. -/
theorem wireWithFrame_before_release {k : Nat} (hb : b < frameLength w)
    (hk : bitStart p d b + sampleDelay p < k) (hlt : k < bitReleased p f d b) : wireWithFrame p f w d k = false := by
  obtain ⟨r, rfl⟩ := Nat.exists_eq_add_of_le ((Nat.le_add_right _ _).trans hk.le)
  have hmin := tickCycles_le_sampleDelay p
  unfold bitReleased at hlt
  split_ifs at hlt with hbit
  · omega
  · rw [wireWithFrame_in_bit hb (by omega), if_neg (by omega), if_pos (by omega)]
    exact Bool.eq_false_iff.2 hbit

variable (hlegal : p.legal = true) (hb : b < frameLength w)
include hlegal hb

theorem wireWithFrame_bitStart : wireWithFrame p f w d (bitStart p d b) = false := by
  have hmin := two_le_tickCycles hlegal
  exact (wireWithFrame_in_bit hb (r := 0) (by omega)).trans (if_pos (by omega))

/-- The sample lands in the tick of the bit's value (42 R80). -/
theorem wireWithFrame_sample : wireWithFrame p f w d (bitStart p d b + sampleDelay p) = f.getLsbD b := by
  have hmin := tickCycles_le_sampleDelay p
  have hmax := sampleDelay_lt_two_ticks hlegal
  rw [wireWithFrame_in_bit hb (by omega), if_neg (by omega), if_pos hmax]

/-- From the release to the next bit the wire is High. -/
theorem wireWithFrame_after_release {k : Nat} (hk : bitReleased p f d b ≤ k) (hlt : k < bitStart p d (b + 1)) :
    wireWithFrame p f w d k = true := by
  obtain ⟨hafter, -⟩ := bitReleased_bounds hlegal f d b
  obtain ⟨r, rfl⟩ := Nat.exists_eq_add_of_le ((Nat.le_add_right _ _).trans (hafter.le.trans hk))
  have hmin := tickCycles_le_sampleDelay p
  rw [bitStart_succ] at hlt
  rw [wireWithFrame_in_bit hb (by omega), if_neg (by omega)]
  by_cases hvalue : r < 2 * tickCycles p
  · have hbit : f.getLsbD b = true := by
      by_contra hzero
      rw [bitReleased, if_neg hzero] at hk
      omega
    rw [if_pos hvalue, hbit]
  · rw [if_neg hvalue]

end FrameOnWire

/-! ### A wait that a timeout does not cut short (43 R82, R84, R88) -/

/-- In cycle k a receiver waits, with this wdog, for the level that the wire shows in cycle e: until then it shows l,
and no timeout is due. -/
structure WaitsUntil (p : Params) (wire : Nat → Bool) (l : Bool) (k e : Nat) (wdog : BitVec 32) : Prop where
  le : k ≤ e
  level : ∀ n, k ≤ n → n < e → wire n = l
  room : p.timeoutCycles = 0 ∨ wdog.toNat + (e - k) < p.timeoutCycles

section Waiting

variable {p : Params} {wire : Nat → Bool} {l : Bool} {k e : Nat}

theorem WaitsUntil.not_due {s : State} (h : WaitsUntil s.cfg wire l k e s.wdog) (hlt : k < e) :
    ¬ timeoutDue s = true := by
  rw [timeoutDue_iff]
  rintro ⟨htimeout, hwdog⟩
  have hroom := h.room.resolve_left htimeout
  omega

theorem WaitsUntil.succ {wdog : BitVec 32} (hlegal : p.legal = true) (h : WaitsUntil p wire l k e wdog) (hlt : k < e) :
    WaitsUntil p wire l (k + 1) e (wdog + 1) := by
  refine ⟨hlt, fun n hn => h.level n (k.le_succ.trans hn), h.room.imp_right fun hroom => ?_⟩
  obtain ⟨-, -, -, hmax⟩ := (legal_iff p).1 hlegal
  have hnext : (wdog + 1).toNat = wdog.toNat + 1 := by bv_omega
  omega

/-- A wait begins with wdog = 0, so it has room if it is shorter than the timeout. -/
theorem WaitsUntil.begin (hle : k ≤ e) (hlevel : ∀ n, k ≤ n → n < e → wire n = l)
    (hroom : p.timeoutCycles = 0 ∨ e - k < p.timeoutCycles) : WaitsUntil p wire l k e 0 :=
  ⟨hle, hlevel, hroom.imp_right fun h => by simpa using h⟩

end Waiting

/-! ### Where the receiver of an aligned frame stands (43 R88) -/

/-- s is in the cycle in which line_s shows index k of the wire: the receiver waits for the falling edge that begins its
bit, or counts to the sample of it, or has taken it and waits for the line's return to High. -/
structure AlignedAt (p : Params) (f : Image) (w : BitVec 6) (d k : Nat) (s : State) : Prop where
  cfg_eq : s.cfg = p
  width_eq : s.width = w
  bit_lt : s.bitidx.toNat < frameLength w
  samples : ∀ b, b < s.bitidx.toNat → s.rxsh.getLsbD b = f.getLsbD b
  phase :
    (s.fsm = .rxWaitHigh ∧ WaitsUntil p (wireWithFrame p f w d) true k (bitStart p d s.bitidx.toNat) s.wdog) ∨
    (s.fsm = .rxDelay ∧ k + s.tcnt.toNat = bitStart p d s.bitidx.toNat + sampleDelay p) ∨
    (s.fsm = .rxWaitLow ∧ s.rxsh.getLsbD s.bitidx.toNat = f.getLsbD s.bitidx.toNat ∧
      WaitsUntil p (wireWithFrame p f w d) false k (bitReleased p f d s.bitidx.toNat) s.wdog)

/-- The last bit's release, in which the RECEIVE completes. -/
abbrev lastRelease (p : Params) (f : Image) (w : BitVec 6) (d : Nat) : Nat := bitReleased p f d (w.toNat + 1)

/-- R88's condition on the timeout: none, or one that is longer than the wait before the frame and not shorter than a
bit. -/
abbrev TimeoutAllows (p : Params) (d : Nat) : Prop :=
  p.timeoutCycles = 0 ∨ (3 * tickCycles p ≤ p.timeoutCycles ∧ d < p.timeoutCycles)

section AlignedReceive

variable {p : Params} {f : Image} {w : BitVec 6} {d k : Nat} {s : State}

theorem AlignedAt.busy (h : AlignedAt p f w d k s) : s.fsm ≠ .idle := by
  rcases h.phase with ⟨hfsm, -⟩ | ⟨hfsm, -⟩ | ⟨hfsm, -⟩ <;> simp [hfsm]

theorem AlignedAt.busUpdate_keeps {b : State} {j : PortIn} (h : AlignedAt p f w d k s) (hcalm : calm j = true)
    (hbus : busUpdate s j = .next b) : AlignedAt p f w d k b ∧ b.sync2 = s.sync2 := by
  obtain ⟨_, _, _, _, _, _, _, rfl⟩ := busUpdate_busy h.busy ((calm_iff j).1 hcalm).2 hbus
  exact ⟨{ h with }, rfl⟩

theorem AlignedAt.endCycle (first line : Bool) (h : AlignedAt p f w d k s) :
    AlignedAt p f w d k (passCycle (shiftSync first line s)) := { h with }

/-- The wait for the first falling edge, from the acceptance on. -/
theorem alignedAt_rxAccept (hallows : TimeoutAllows s.cfg d) :
    AlignedAt s.cfg f w d 0 (rxAccept w s) := by
  have hfirst : bitStart s.cfg d 0 = d := by simp [bitStart]
  refine ⟨rfl, rfl, Nat.succ_pos _, fun b hb => absurd hb b.not_lt_zero, .inl ⟨rfl, ?_⟩⟩
  change WaitsUntil _ _ _ 0 (bitStart s.cfg d 0) 0
  rw [hfirst]
  exact .begin d.zero_le (fun n _ hn => wireWithFrame_before hn) (hallows.imp_right fun h => h.2)

/-- In RX_WAIT_HIGH: one more cycle, or the edge. -/
theorem AlignedAt.waitHigh_moves (hlegal : p.legal = true) (h : AlignedAt p f w d k s)
    (hline : s.sync2 = wireWithFrame p f w d k) (hfsm : s.fsm = .rxWaitHigh) :
    AlignedAt p f w d (k + 1) (seqUpdate s s) := by
  obtain ⟨rfl, rfl, hbit, hsamples, hphase⟩ := h
  have hwait : WaitsUntil s.cfg (wireWithFrame s.cfg f s.width d) true k (bitStart s.cfg d s.bitidx.toNat) s.wdog := by
    simpa [hfsm] using hphase
  rcases hwait.le.lt_or_eq with hlt | rfl
  · have hhigh : lineS s = true := hline.trans (hwait.level k le_rfl hlt)
    rw [seqUpdate_waitsInVain s (.inl ⟨hfsm, hhigh⟩), if_neg (hwait.not_due hlt)]
    exact ⟨rfl, rfl, hbit, hsamples, .inl ⟨hfsm, hwait.succ hlegal hlt⟩⟩
  · have hlow : lineS s = false := hline.trans (wireWithFrame_bitStart hlegal hbit)
    have hload := countFor_sampleDelay hlegal
    rw [seqUpdate_rxWaitHigh hfsm, rxWaitHighStep_edge s hlow]
    exact ⟨rfl, rfl, hbit, hsamples, .inr (.inl ⟨rfl, by dsimp only; omega⟩)⟩

/-- In RX_DELAY: one more cycle, or the sample, which is the bit's value. -/
theorem AlignedAt.delay_moves (hlegal : p.legal = true) (hwidth : w.toNat ≤ p.wmax) (hallows : TimeoutAllows p d)
    (h : AlignedAt p f w d k s) (hline : s.sync2 = wireWithFrame p f w d k) (hfsm : s.fsm = .rxDelay) :
    AlignedAt p f w d (k + 1) (seqUpdate s s) := by
  obtain ⟨rfl, rfl, hbit, hsamples, hphase⟩ := h
  have hcounted : k + s.tcnt.toNat = bitStart s.cfg d s.bitidx.toNat + sampleDelay s.cfg := by
    simpa [hfsm] using hphase
  rw [seqUpdate_rxDelay hfsm]
  by_cases hcount : s.tcnt = 0
  · have hk : k = bitStart s.cfg d s.bitidx.toNat + sampleDelay s.cfg := by simpa [hcount] using hcounted
    have hsample : lineS s = f.getLsbD s.bitidx.toNat := by
      rw [lineS, hline, hk]
      exact wireWithFrame_sample hlegal hbit
    have hplace : s.bitidx.toNat < imageWidth s.cfg := hbit.trans_le (Nat.add_le_add_right hwidth 2)
    have hstored := storeSample_getLsbD hlegal hplace
    obtain ⟨hafter, hbefore⟩ := bitReleased_bounds hlegal f d s.bitidx.toNat
    rw [rxDelayStep_sample s hcount]
    refine ⟨rfl, rfl, hbit, fun b hb => ?_, .inr (.inr ⟨rfl, ?_, .begin (hk ▸ hafter) (fun n hn => ?_) ?_⟩)⟩
    · replace hb : b < s.bitidx.toNat := hb
      change (storeSample s).getLsbD b = _
      rw [hstored, if_neg hb.ne, hsamples b hb]
      simp [hb.trans hplace]
    · change (storeSample s).getLsbD s.bitidx.toNat = _
      rw [hstored, if_pos rfl, hsample]
      simp [hplace]
    · exact wireWithFrame_before_release hbit (hk ▸ hn)
    · refine hallows.imp_right fun hroom => ?_
      have hmin := two_le_tickCycles hlegal
      change bitReleased s.cfg f d s.bitidx.toNat - (k + 1) < _
      omega
  · have hdown : (s.tcnt - 1).toNat + 1 = s.tcnt.toNat := by bv_omega
    rw [rxDelayStep_counting s hcount]
    exact ⟨rfl, rfl, hbit, hsamples, .inr (.inl ⟨hfsm, by dsimp only; omega⟩)⟩

/-- In RX_WAIT_LOW before the last release: one more cycle, or the end of a bit that is not the last. -/
theorem AlignedAt.waitLow_moves (hlegal : p.legal = true) (hwidth : w.toNat ≤ p.wmax) (hallows : TimeoutAllows p d)
    (h : AlignedAt p f w d k s) (hline : s.sync2 = wireWithFrame p f w d k) (hk : k < lastRelease p f w d)
    (hfsm : s.fsm = .rxWaitLow) : AlignedAt p f w d (k + 1) (seqUpdate s s) := by
  obtain ⟨rfl, rfl, hbit, hsamples, hphase⟩ := h
  obtain ⟨hsample, hwait⟩ : s.rxsh.getLsbD s.bitidx.toNat = f.getLsbD s.bitidx.toNat ∧
      WaitsUntil s.cfg (wireWithFrame s.cfg f s.width d) false k (bitReleased s.cfg f d s.bitidx.toNat) s.wdog := by
    simpa [hfsm] using hphase
  rcases hwait.le.lt_or_eq with hlt | rfl
  · have hlow : lineS s = false := hline.trans (hwait.level k le_rfl hlt)
    rw [seqUpdate_waitsInVain s (.inr ⟨hfsm, hlow⟩), if_neg (hwait.not_due hlt)]
    exact ⟨rfl, rfl, hbit, hsamples, .inr (.inr ⟨hfsm, hsample, hwait.succ hlegal hlt⟩)⟩
  · obtain ⟨hafter, hbefore⟩ := bitReleased_bounds hlegal f d s.bitidx.toNat
    have hmin := two_le_tickCycles hlegal
    have hnext := bitStart_succ s.cfg d s.bitidx.toNat
    have hhigh : lineS s = true :=
      hline.trans (wireWithFrame_after_release hlegal hbit le_rfl (by omega))
    have hsucc := bitidx_succ hlegal hwidth hbit
    have hmore : s.bitidx.toNat + 1 ≠ frameLength s.width := by
      intro hlast
      obtain hlast : s.bitidx.toNat = s.width.toNat + 1 := Nat.succ.inj hlast
      rw [hlast] at hk
      exact lt_irrefl _ hk
    rw [seqUpdate_rxWaitLow hfsm, rxWaitLowStep_released s hhigh, if_neg (mt (lastBit_iff s).1 hmore)]
    refine ⟨rfl, rfl, hsucc.trans_lt (Nat.lt_of_le_of_ne hbit hmore), fun b hb => ?_, .inl ⟨rfl, ?_⟩⟩
    · replace hb : b < (s.bitidx + 1).toNat := hb
      rcases (Nat.le_of_lt_succ (hsucc ▸ hb)).lt_or_eq with hb | rfl
      · exact hsamples b hb
      · exact hsample
    · change WaitsUntil _ _ _ _ (bitStart s.cfg d (s.bitidx + 1).toNat) 0
      rw [hsucc]
      refine .begin (by omega) (fun n hn => wireWithFrame_after_release hlegal hbit (Nat.le_of_succ_le hn)) ?_
      exact hallows.imp_right fun hroom => by omega

theorem AlignedAt.seqUpdate_moves (hlegal : p.legal = true) (hwidth : w.toNat ≤ p.wmax) (hallows : TimeoutAllows p d)
    (h : AlignedAt p f w d k s) (hline : s.sync2 = wireWithFrame p f w d k) (hk : k < lastRelease p f w d) :
    AlignedAt p f w d (k + 1) (seqUpdate s s) := by
  rcases h.phase with ⟨hfsm, -⟩ | ⟨hfsm, -⟩ | ⟨hfsm, -⟩
  · exact h.waitHigh_moves hlegal hline hfsm
  · exact h.delay_moves hlegal hwidth hallows hline hfsm
  · exact h.waitLow_moves hlegal hwidth hallows hline hk hfsm

/-- At the last release the receiver is about to end the last bit, all its samples being the frame's bits. -/
theorem AlignedAt.at_last (hlegal : p.legal = true) (h : AlignedAt p f w d (lastRelease p f w d) s) :
    s.fsm = .rxWaitLow ∧ s.bitidx.toNat = w.toNat + 1 ∧
      ∀ b, b < frameLength w → s.rxsh.getLsbD b = f.getLsbD b := by
  obtain ⟨rfl, rfl, hbit, hsamples, hphase⟩ := h
  have hle : s.bitidx.toNat ≤ s.width.toNat + 1 := Nat.le_of_lt_succ hbit
  have hstart := bitStart_le s.cfg d hle
  obtain ⟨hafter, -⟩ : _ < lastRelease s.cfg f s.width d ∧ _ := bitReleased_bounds hlegal f d (s.width.toNat + 1)
  rcases hphase with ⟨-, hwait⟩ | ⟨-, hcounted⟩ | ⟨hfsm, hsample, hwait⟩
  · have hearly := hwait.le
    omega
  · omega
  · have hlast : s.bitidx.toNat = s.width.toNat + 1 := by
      by_contra hother
      have hnext : bitStart s.cfg d (s.bitidx.toNat + 1) ≤ _ := bitStart_le s.cfg d (Nat.lt_of_le_of_ne hle hother)
      have hlength := bitStart_succ s.cfg d s.bitidx.toNat
      obtain ⟨-, hbefore⟩ := bitReleased_bounds hlegal f d s.bitidx.toNat
      have hearly := hwait.le
      omega
    refine ⟨hfsm, hlast, fun b hb => ?_⟩
    rcases (Nat.le_of_lt_succ hb).lt_or_eq with hb | rfl
    · exact hsamples b (hlast ▸ hb)
    · exact hlast ▸ hsample

/-! ### FRAME_ERR along the RECEIVE (43 R85, 10 R25) -/

/-- FRAME_ERR has not been set since s, and is as it was where `unwritten` says that the host has not written STATUS. -/
structure FerrKept (unwritten : Prop) (s t : State) : Prop where
  ferr_imp : t.ferr = true → s.ferr = true
  ferr_eq : unwritten → t.ferr = s.ferr

theorem FerrKept.trans {unwritten here : Prop} {s t u : State} (hst : FerrKept unwritten s t) (htu : FerrKept here t u)
    (h : unwritten → here) : FerrKept unwritten s u where
  ferr_imp := hst.ferr_imp ∘ htu.ferr_imp
  ferr_eq hunwritten := (htu.ferr_eq (h hunwritten)).trans (hst.ferr_eq hunwritten)

/-- The start and the stop bit of an aligned frame are sampled as they are sent. -/
theorem AlignedAt.framing_ok (h : AlignedAt p f w d k s) (hstart : f.getLsbD 0 = false)
    (hstop : f.getLsbD (w.toNat + 1) = true) (hcompletes : ReceiveCompletes s) :
    framingBad s.rxsh s.width.toNat = false := by
  obtain ⟨hfsm, -, hlastBit⟩ := hcompletes
  obtain ⟨-, rfl, -, hsamples, hphase⟩ := h
  obtain hlast : s.bitidx.toNat = s.width.toNat + 1 := Nat.succ.inj ((lastBit_iff s).1 hlastBit)
  obtain ⟨hsample, -⟩ : s.rxsh.getLsbD s.bitidx.toNat = f.getLsbD s.bitidx.toNat ∧ _ := by
    simpa [hfsm] using hphase
  have hfirst := hsamples 0 (by omega)
  rw [hlast] at hsample
  rw [framingBad, hfirst, hsample, hstart, hstop]
  rfl

theorem seqUpdate_ferr {s b : State} (h : ReceiveCompletes s → framingBad s.rxsh s.width.toNat = false) :
    (seqUpdate s b).ferr = b.ferr := by
  have hset : (seqUpdate s b).ferr = (b.ferr || (decide (ReceiveCompletes s) && framingBad s.rxsh s.width.toNat)) :=
    congrArg Flags.ferr (flagsOf_seqUpdate s b)
  rw [hset]
  by_cases hcompletes : ReceiveCompletes s
  · rw [h hcompletes, Bool.and_false, Bool.or_false]
  · rw [decide_eq_false hcompletes, Bool.false_and, Bool.or_false]

/-! ### A cycle of an aligned RECEIVE (43 R88) -/

/-- The receiver stands at index k of the wire, its synchroniser holds the wire's levels, and FRAME_ERR is kept since
`start`. -/
structure AlignedCycle (start : State) (unwritten : Prop) (f : Image) (w : BitVec 6) (d k : Nat) (s : State) :
    Prop where
  at_index : AlignedAt start.cfg f w d k s
  sync2_eq : s.sync2 = wireWithFrame start.cfg f w d k
  sync1_eq : s.sync1 = wireWithFrame start.cfg f w d (k + 1)
  ferr : FerrKept unwritten start s

section AlignedCycles

variable {start : State} {unwritten : Prop} {j : PortIn} {more : List PortIn}

/-- A calm cycle of the RECEIVE runs the sequencer from a state that the host has left aligned, and keeps FRAME_ERR. -/
theorem AlignedCycle.step_aligned (hlegal : start.cfg.legal = true) (hstart : f.getLsbD 0 = false)
    (hstop : f.getLsbD (w.toNat + 1) = true) (h : AlignedCycle start unwritten f w d k s) (hin : s.inputs = j :: more)
    (hcalm : calm j = true) (hstatus : unwritten → ¬ writesRegister j 1) :
    ∃ b t, AlignedAt start.cfg f w d k b ∧ b.sync2 = wireWithFrame start.cfg f w d k ∧ step s = .next t ∧
      t = passCycle (shiftSync s.sync1 j.lineI (seqUpdate b b)) ∧ t.inputs = more ∧ FerrKept unwritten start t := by
  have hbusy := h.at_index.busy
  obtain ⟨b, t, hbus, hstep, rfl, hint⟩ := step_calm_from_host (h.at_index.cfg_eq ▸ hlegal) hbusy hin hcalm
  obtain ⟨hb, hsync⟩ := h.at_index.busUpdate_keeps hcalm hbus
  obtain ⟨-, -, -, himp, hflags⟩ := busUpdate_resultKept hbusy hcalm hbus
  have hseq : (seqUpdate b b).ferr = b.ferr := seqUpdate_ferr (hb.framing_ok hstart hstop)
  refine ⟨b, _, hb, hsync.trans h.sync2_eq, hstep, rfl, hint, h.ferr.trans ⟨fun hset => himp (hseq ▸ hset), ?_⟩ hstatus⟩
  intro hnot
  obtain ⟨-, hsame⟩ := hflags hnot
  exact hseq.trans hsame

theorem AlignedCycle.step_moves (hlegal : start.cfg.legal = true) (hwidth : w.toNat ≤ start.cfg.wmax)
    (hallows : TimeoutAllows start.cfg d) (hstart : f.getLsbD 0 = false) (hstop : f.getLsbD (w.toNat + 1) = true)
    (h : AlignedCycle start unwritten f w d k s) (hk : k < lastRelease start.cfg f w d) (hin : s.inputs = j :: more)
    (hcalm : calm j = true) (hline : j.lineI = wireWithFrame start.cfg f w d (k + 2))
    (hstatus : unwritten → ¬ writesRegister j 1) :
    ∃ t, step s = .next t ∧ t.inputs = more ∧ AlignedCycle start unwritten f w d (k + 1) t := by
  obtain ⟨b, t, hb, hlevel, hstep, rfl, hint, hferr⟩ := h.step_aligned hlegal hstart hstop hin hcalm hstatus
  have hmoved := hb.seqUpdate_moves hlegal hwidth hallows hlevel hk
  exact ⟨_, hstep, hint, hmoved.endCycle _ _, h.sync1_eq, hline, hferr⟩

/-- The cycle of the last release completes the RECEIVE (43 R85). -/
theorem AlignedCycle.step_completes (hlegal : start.cfg.legal = true) (hwidth : w.toNat ≤ start.cfg.wmax)
    (hstart : f.getLsbD 0 = false) (hstop : f.getLsbD (w.toNat + 1) = true)
    (h : AlignedCycle start unwritten f w d (lastRelease start.cfg f w d) s) (hin : s.inputs = j :: more)
    (hcalm : calm j = true) (hstatus : unwritten → ¬ writesRegister j 1) :
    ∃ t, step s = .next t ∧ t.fsm = .idle ∧ t.rxdata = frameDecode f w.toNat ∧ t.done = true ∧
      t.bitidx.toNat = w.toNat + 2 ∧ FerrKept unwritten start t := by
  obtain ⟨b, t, hb, hlevel, hstep, rfl, -, hferr⟩ := h.step_aligned hlegal hstart hstop hin hcalm hstatus
  obtain ⟨hfsm, hlast, hsamples⟩ := hb.at_last hlegal
  obtain ⟨hcfg, rfl, hbit, -, -⟩ := hb
  obtain ⟨-, ⟨-, hwmax⟩, -⟩ := (legal_iff start.cfg).1 hlegal
  have hmin := two_le_tickCycles hlegal
  have hhigh : lineS b = true := by
    obtain ⟨-, hbefore⟩ : _ ∧ lastRelease start.cfg f b.width d ≤ _ :=
      bitReleased_bounds hlegal f d (b.width.toNat + 1)
    have hnext := bitStart_succ start.cfg d (b.width.toNat + 1)
    exact hlevel.trans (wireWithFrame_after_release hlegal (Nat.lt_succ_self _) le_rfl (by omega))
  have hsucc : (b.bitidx + 1).toNat = b.width.toNat + 2 :=
    (bitidx_succ (hcfg ▸ hlegal) (hcfg ▸ hwidth) hbit).trans (congrArg (· + 1) hlast)
  have hcompletes : seqUpdate b b = rxComplete b { b with bitidx := b.bitidx + 1, wdog := 0 } := by
    rw [seqUpdate_rxWaitLow hfsm, rxWaitLowStep_released b hhigh, if_pos ((lastBit_iff b).2 (congrArg (· + 1) hlast))]
  have hpayload : frameDecode b.rxsh b.width.toNat = frameDecode f b.width.toNat :=
    frameDecode_congr (hwidth.trans hwmax) fun i hi => hsamples (i + 1) (by unfold frameLength; omega)
  refine ⟨_, hstep, ?_, ?_, ?_, ?_, hferr⟩ <;> rw [hcompletes]
  · rfl
  · exact hpayload
  · rfl
  · exact hsucc

/-- The cycle of an accepted RECEIVE is followed by the one in which line_s shows index 0 of the wire. -/
theorem step_receive_aligned {i : PortIn} (hlegal : s.cfg.legal = true) (hidle : s.fsm = .idle)
    (hwidth : w.toNat ≤ s.cfg.wmax) (hallows : TimeoutAllows s.cfg d) (hrst : i.rst = false)
    (hreceive : writesCommand i (.receive w)) (hin : s.inputs = i :: more)
    (hsync : s.sync1 = wireWithFrame s.cfg f w d 0) (hline : i.lineI = wireWithFrame s.cfg f w d 1) :
    ∃ t, step s = .next t ∧ t.inputs = more ∧ AlignedCycle s unwritten f w d 0 t :=
  ⟨_, step_receive hlegal hidle hwidth hrst hreceive hin, by simp [hin],
    (alignedAt_rxAccept hallows).endCycle _ _, hsync, hline, id, fun _ => rfl⟩

end AlignedCycles

end AlignedReceive

/-! ### A whole aligned RECEIVE (43 R88) -/

/-- A property that each listed cycle carries on, by its place in the list, holds along the run. -/
theorem run_along_listed {P : Nat → State → Prop} {ins rest : List PortIn} {n : Nat} {s : State} (hn : n ≤ ins.length)
    (hstep : ∀ {k t more} (hk : k < ins.length), k < n → P k t → t.inputs = ins[k] :: more →
      ∃ u, step t = .next u ∧ u.inputs = more ∧ P (k + 1) u)
    (hP : P 0 s) (hin : s.inputs = ins ++ rest) {m : Nat} (hm : m ≤ n) :
    ∃ t, run m s = .next t ∧ t.inputs = ins.drop m ++ rest ∧ P m t := by
  have hnext {k : Nat} {t : State} {j : PortIn} {more : List PortIn} (hk : k < n)
      (hat : P k t ∧ t.inputs = ins.drop k ++ rest) (hint : t.inputs = j :: more) (_ : True) :
      ∃ u, step t = .next u ∧ u.inputs = more ∧ P (k + 1) u ∧ u.inputs = ins.drop (k + 1) ++ rest := by
    have hlisted : t.inputs = ins[k] :: (ins.drop (k + 1) ++ rest) := by
      rw [hat.2, List.drop_eq_getElem_cons (hk.trans_le hn), List.cons_append]
    obtain ⟨u, hstepu, hinu, hPu⟩ := hstep (hk.trans_le hn) hk hat.1 hlisted
    obtain ⟨-, rfl⟩ := List.cons.inj (hint.symm.trans hlisted)
    exact ⟨u, hstepu, hinu, hPu, hinu⟩
  obtain ⟨t, hrun, -, hPt, hint⟩ :=
    run_along (P := fun k t => P k t ∧ t.inputs = ins.drop k ++ rest) hnext m ⟨hP, hin⟩ hin (fun _ _ => trivial)
      (hm.trans hn) (by omega)
  rw [Nat.zero_add] at hPt hint
  exact ⟨t, hrun, hint, hPt⟩

/-- Settles O42: `step_receive_aligned`, then the receiver aligned with the wire up to the last release, and
`AlignedCycle.step_completes`. -/
theorem alignedReceiveDeliversThePayload : Obligations.AlignedReceiveDeliversThePayload := by
  intro s w v d i more rest hlegal hidle hwidth hreceive hin hlen hcalm hsync hwire hallows
  obtain ⟨-, ⟨-, hwmax⟩, -⟩ := (legal_iff s.cfg).1 hlegal
  obtain ⟨-, -, hframing, -⟩ := frameCodecLaws
  obtain ⟨hstart, hstop⟩ := hframing v w.toNat (hwidth.trans hwmax)
  have hline (k : Nat) (hk : k < (i :: more).length) :
      (i :: more)[k].lineI = wireWithFrame s.cfg (frameEncode v w.toNat) w d (k + 1) := by
    have hlevel := List.getElem_of_eq hwire (i := k) (by rwa [List.length_map])
    simpa only [List.getElem_map, List.getElem_range] using hlevel
  have hlast : lastRelease s.cfg (frameEncode v w.toNat) w d + 1 = more.length := by
    rw [List.length_cons] at hlen
    rw [lastRelease, bitReleased, if_pos hstop, bitStart, bitCycles]
    omega
  obtain ⟨hrst, -⟩ := (calm_iff i).1 (hcalm i List.mem_cons_self)
  obtain ⟨u, hstep, hinu, haccepted⟩ :=
    step_receive_aligned (unwritten := ∀ j ∈ i :: more, ¬ writesRegister j 1) hlegal hidle hwidth hallows hrst hreceive
      hin hsync (hline 0 (Nat.succ_pos _))
  have hmem {k : Nat} (hk : k < more.length) : more[k] ∈ i :: more := List.mem_cons_of_mem i (List.getElem_mem hk)
  have hreceiving {k : Nat} (hk : k ≤ lastRelease s.cfg (frameEncode v w.toNat) w d) :=
    run_along_listed (n := lastRelease s.cfg (frameEncode v w.toNat) w d) (by omega)
      (fun {k _ _} hlt hk hat hint => hat.step_moves hlegal hwidth hallows hstart hstop hk hint (hcalm _ (hmem hlt))
        (hline (k + 1) (Nat.succ_lt_succ hlt)) (fun hunwritten => hunwritten _ (hmem hlt)))
      haccepted hinu hk
  refine ⟨fun k hpos hk => ?_, ?_⟩
  · obtain ⟨k, rfl⟩ := Nat.exists_eq_succ_of_ne_zero (Nat.one_le_iff_ne_zero.1 hpos)
    rw [List.length_cons] at hk
    obtain ⟨t, hrun, -, hat⟩ := hreceiving (k := k) (by omega)
    refine ⟨t, ?_, hat.at_index.busy⟩
    rw [Nat.succ_eq_add_one, run_succ, hstep]
    exact hrun
  · obtain ⟨t, hrun, hint, hat⟩ := hreceiving le_rfl
    have hlt : lastRelease s.cfg (frameEncode v w.toNat) w d < more.length := by omega
    rw [List.drop_eq_getElem_cons hlt, List.cons_append] at hint
    obtain ⟨e, hend, hfsm, hrxdata, hdone, hbit, himp, hsame⟩ :=
      hat.step_completes hlegal hwidth hstart hstop hint (hcalm _ (hmem hlt))
        (fun hunwritten => hunwritten _ (hmem hlt))
    refine ⟨e, ?_, hfsm, ?_, hdone, hbit, himp, hsame⟩
    · rw [List.length_cons, run_succ, hstep, ← hlast]
      exact run_succ_of_step hrun hend
    · rw [hrxdata, frameDecode_frameEncode_toNat v (hwidth.trans hwmax)]

end Sys2Proof.Machine
end
